-- ==== Sys2Proof/Word.lean ====
section
/-!
DEFINITION. The words the AZ680 is described in: bytes of frames, the numbers of channels, and the
sets of names (feeds, ports, clients, pins) that the spec fixes. Quantities (dA, dV, ms, per-mille)
are natural numbers, as 00_scope.md says ("Every quantity in this manual is an integer").
-/
namespace Sys2Proof

/-- One byte of a CAN frame. -/
abbrev Byte := BitVec 8

/-- A two-byte field of a CAN frame. -/
abbrev Half := BitVec 16

/-- A channel number, 0 to 15. -/
abbrev Ch := Fin 16

/-- One of the two of a pair. Feeds, ports, flash groups and bridges all come in twos. -/
inductive Side where
  | a
  | b
deriving DecidableEq, Repr

/-- Supply feed A (`a`) or B (`b`). -/
abbrev Feed := Side
/-- Link port A (`a`) or B (`b`). -/
abbrev Port := Side
/-- Flash group 0 (`a`) or 1 (`b`). -/
abbrev Group := Side
/-- The bridge of channel 14 (`a`) or of channel 15 (`b`). -/
abbrev Bridge := Side

/-- The code 0 or 1 by which frames name a feed, a port, a group or a direction. -/
def Side.code : Side → Nat
  | .a => 0
  | .b => 1

/-- The five clients (00_scope.md, "Clients"; R26). -/
inductive Client where
  | wired
  | body
  | engine
  | climate
  | service
deriving DecidableEq, Repr

/-- A client's fixed number, 0 to 4. -/
def Client.number : Client → Nat
  | .wired => 0
  | .body => 1
  | .engine => 2
  | .climate => 3
  | .service => 4

/-- All clients in ascending order of their numbers. -/
def Client.all : List Client := [.wired, .body, .engine, .climate, .service]

/-- The three wired inputs that place demands (R46). -/
inductive WiredInput where
  | brake
  | hazard
  | reverse
deriving DecidableEq, Repr

/-- The four wired pins (R45). -/
inductive Pin where
  | brake
  | hazard
  | reverse
  | key
deriving DecidableEq, Repr

/-- The levels of the four pins at one wired sample; true is active. -/
structure PinLevels where
  brake : Bool
  hazard : Bool
  reverse : Bool
  key : Bool
deriving DecidableEq, Repr

/-- A frame as a port's link layer receives it: a remote frame or not, an 11-bit or a 29-bit
identifier, and its data bytes, byte 0 first (R142). -/
structure CanFrame where
  remote : Bool
  extended : Bool
  id : Nat
  data : List Byte
deriving DecidableEq, Repr

/-- Where a request came from: the port it arrived on and the client its identifier names. -/
structure Source where
  port : Port
  client : Client
deriving DecidableEq, Repr

/-- What wakes the part (R163): a frame on a port, or the wired sample that makes a pin active. -/
inductive WakeCause where
  | frame (p : Port) (f : CanFrame)
  | input (levels : PinLevels)
deriving DecidableEq, Repr

/-- All channels in ascending order. -/
def allChannels : List Ch := [0, 1, 2, 3, 4, 5, 6, 7, 8, 9, 10, 11, 12, 13, 14, 15]

end Sys2Proof
end

