-- ==== Sys2Proof/Config.lean ====
section
/-!
DEFINITION. What an AZ680 has fixed from outside, and the values the spec leaves open. Each is an
opaque constant: no proof can see its value, so what is proved holds for every value.
-/
namespace Sys2Proof

/-- The zone address that the strap pins give at the power-on reset which `State.reset` stands for
(R141: "At power-on reset the part reads Z from its two strap pins"). DESIGN CHOICE, log 6: the
board decides it. -/
opaque Config.strapZone : Fin 4

/-- The receive error count that a port's link layer holds after another millisecond of bus traffic
(R142: "The receive error count is kept by the link layer and acts on no state that this manual
specifies"). The spec does not say how it moves. A free value, log 7: the first argument is the
state's fresh index, the second the port. -/
opaque Config.receiveErrorCount : Nat → Port → Nat

end Sys2Proof
end

