-- ==== Sys2Proof/Machine/Records.lean ====
section
/-!
DEFINITION. The records the blocks of the AZ680 hold, as plain data, and the sets of names their
fields range over. Rules are cited at each record.
-/
namespace Sys2Proof.Machine

/-- Two like records, one for each side (feeds, ports, groups, bridges). -/
structure Pair (α : Type) where
  a : α
  b : α
deriving DecidableEq, Repr

/-- The record of one side. -/
def Pair.get {α : Type} (p : Pair α) : Side → α
  | .a => p.a
  | .b => p.b

/-- The pair with the record of one side replaced. -/
def Pair.set {α : Type} (p : Pair α) : Side → α → Pair α
  | .a, x => ⟨x, p.b⟩
  | .b, x => ⟨p.a, x⟩

/-- A like change of the sixteen records of the channels. -/
def mapChannels {α β : Type} (f : α → β) (v : Vector α 16) : Vector β 16 :=
  Vector.ofFn fun ch => f v[ch]

/-- One like record for each of the five clients. -/
structure PerClient (α : Type) where
  wired : α
  body : α
  engine : α
  climate : α
  service : α
deriving DecidableEq, Repr

/-- The record of one client. -/
def PerClient.get {α : Type} (p : PerClient α) : Client → α
  | .wired => p.wired
  | .body => p.body
  | .engine => p.engine
  | .climate => p.climate
  | .service => p.service

/-- The five records with one client's replaced. -/
def PerClient.set {α : Type} (p : PerClient α) : Client → α → PerClient α
  | .wired, x => ⟨x, p.body, p.engine, p.climate, p.service⟩
  | .body, x => ⟨p.wired, x, p.engine, p.climate, p.service⟩
  | .engine, x => ⟨p.wired, p.body, x, p.climate, p.service⟩
  | .climate, x => ⟨p.wired, p.body, p.engine, x, p.service⟩
  | .service, x => ⟨p.wired, p.body, p.engine, p.climate, x⟩

/-- One like record for each of the four wired pins. -/
structure PerPin (α : Type) where
  brake : α
  hazard : α
  reverse : α
  key : α
deriving DecidableEq, Repr

/-- The record of one pin. -/
def PerPin.get {α : Type} (p : PerPin α) : Pin → α
  | .brake => p.brake
  | .hazard => p.hazard
  | .reverse => p.reverse
  | .key => p.key

/-- One like record for each of the three wired inputs that place demands. -/
structure PerInput (α : Type) where
  brake : α
  hazard : α
  reverse : α
deriving DecidableEq, Repr

/-- The record of one wired input. -/
def PerInput.get {α : Type} (p : PerInput α) : WiredInput → α
  | .brake => p.brake
  | .hazard => p.hazard
  | .reverse => p.reverse

/-- The three records with one replaced. -/
def PerInput.set {α : Type} (p : PerInput α) : WiredInput → α → PerInput α
  | .brake, x => ⟨x, p.hazard, p.reverse⟩
  | .hazard, x => ⟨p.brake, x, p.reverse⟩
  | .reverse, x => ⟨p.brake, p.hazard, x⟩

/-! ### Channels (chapters 1, 4 and 5) -/

/-- The four types of channel (R1). -/
inductive ChannelType where
  | lamp
  | heater
  | fan
  | bridge
deriving DecidableEq, Repr

/-- The channel states (01, section 1.4). -/
inductive ChState where
  | off
  | waiting
  | ramping
  | on
  | tripped
  | locked
  | shed
  | suspended
deriving DecidableEq, Repr

/-- What a channel does with a lost client's STEADY and FLASH entries (R29). -/
inductive Silence where
  | hold
  | release
deriving DecidableEq, Repr

/-- A client's right on a channel (01, section 1.3). -/
inductive Right where
  | none
  | demand
  | inhibit
  | both
deriving DecidableEq, Repr

/-- The mode of a WIRED binding: steady, or flash on a group (01, section 1.3). -/
inductive BindMode where
  | steady
  | flash (g : Group)
deriving DecidableEq, Repr

/-- A bridge's legs at rest (R125). -/
inductive IdleLegs where
  | float
  | brake
deriving DecidableEq, Repr

/-- The profile fields that only bridge channels hold (R2, R9). -/
structure BridgeProfile where
  stall : Nat
  stallt : Nat
  braket : Nat
  deadt : Nat
  idle : IdleLegs
deriving DecidableEq, Repr

/-- A channel's profile (01, section 1.3). `period` and `silence` are absent on a bridge and
`bridge` is absent on every other type, as R2 says the profile does not hold them. `bindInput` is
`none` for the input NONE. -/
structure Profile where
  cls : Nat
  rated : Nat
  tau : Nat
  short : Nat
  ishort : Nat
  window : Nat
  iclaim : Nat
  rclaim : Nat
  retries : Nat
  openThr : Nat
  period : Option Nat
  vt : Nat
  silence : Option Silence
  rightBody : Right
  rightEngine : Right
  rightClimate : Right
  bindInput : Option WiredInput
  bindMode : BindMode
  bindDuty : Nat
  bridge : Option BridgeProfile
deriving DecidableEq, Repr

/-- The cause of a trip record; NONE while the channel has not tripped (R79). -/
inductive TripCause where
  | none
  | thermal
  | short
deriving DecidableEq, Repr

/-- The state a trip record says the channel tripped from (R79, R153). -/
inductive TripFrom where
  | none
  | ramping
  | on
deriving DecidableEq, Repr

/-- The trip record (R79). -/
structure TripRecord where
  cause : TripCause
  rms : Nat
  q : Nat
  vavg : Nat
  tripFrom : TripFrom
  pending : Nat
  count : Nat
deriving DecidableEq, Repr

/-- A running period timer (05, section 5.1): its position within the period in progress, 0 up to
PERIOD - 1 µs (R89), and how many period starts have come whose latch (R90) waits to be taken
(log 16). -/
structure PeriodTimer where
  pos : Nat
  starts : Nat
deriving DecidableEq, Repr

/-- The channel record (01 section 1.2; 04 R70, R72; 05 section 5.1). `window` is the inrush window
timer's ms left, `goodRun` the good-run timer's ms elapsed, `periodTimer` the period timer; each is
`none` while its timer is stopped. `conducted` is the sense converter's: the output has conducted in
the sense interval in progress (R70, log 36). -/
structure Channel where
  st : ChState
  profile : Profile
  default : Bool
  wish : Bool
  inhibited : Bool
  pending : Nat
  applied : Nat
  periodTimer : Option PeriodTimer
  onTime : Nat
  q : Nat
  tripCount : Nat
  trip : TripRecord
  window : Option Nat
  goodRun : Option Nat
  lowCount : Nat
  goodCount : Nat
  openFlag : Bool
  stamp : Option Nat
  lastRms : Nat
  lastOn : Option Nat
  conducted : Bool
deriving DecidableEq, Repr

/-! ### Demand table and client table (chapter 2) -/

/-- The direction of a drive (R35). -/
inductive Direction where
  | forward
  | reverse
deriving DecidableEq, Repr

/-- A demand entry (R35). A TIMED entry's `remaining` is in 10 ms units and `ms` counts the
milliseconds toward its next step (R41). -/
inductive Entry where
  | steady (duty : Nat) (held : Bool)
  | timed (duty remaining ms : Nat)
  | flash (duty : Nat) (group : Group) (count remaining : Nat) (started held : Bool)
  | inhibit
  | drive (dir : Direction) (duration : Nat) (ending : Bool)
deriving DecidableEq, Repr

/-- The states of a client (R26). -/
inductive ClientState where
  | absent
  | active
  | lost
deriving DecidableEq, Repr

/-- A client's record (R26); `silence` is the silence timer's elapsed ms, `none` while stopped. -/
structure ClientRecord where
  st : ClientState
  timeout : Nat
  silence : Option Nat
  lastPort : Option Port
deriving DecidableEq, Repr

/-- The combined demand of a channel (R42). -/
structure Combined where
  inhibited : Bool
  wants : Bool
  duty : Nat
deriving DecidableEq, Repr

/-- What the wired input block holds for one pin (R45); true is active. -/
structure PinRecord where
  raw : Bool
  level : Bool
  count : Nat
deriving DecidableEq, Repr

/-! ### Admission units (chapter 3) -/

/-- An entry of an admission queue (R54). `delay` is the ADMIT_DELAY timer's elapsed ms; it is
`none` once the timer has reached 5,000 ms and stopped (R66). -/
structure QueueEntry where
  ch : Ch
  cls : Nat
  delay : Option Nat
deriving DecidableEq, Repr

/-- An active hold (R63). -/
structure Hold where
  holder : Client
  level : Nat
  remaining : Nat
deriving DecidableEq, Repr

/-- An admission unit: budgets (R51), queue (R54), sums S and R (R53), hold record (R63) and
admission counter (R61). -/
structure Admission where
  peak : Nat
  cont : Nat
  vshed : Nat
  queue : List QueueEntry
  sumS : Nat
  sumR : Nat
  hold : Option Hold
  counter : Nat
deriving DecidableEq, Repr

/-- Why a hold ended (R65). -/
inductive HoldCause where
  | unhold
  | expired
  | lost
deriving DecidableEq, Repr

/-! ### Feed monitors (chapter 8) -/

/-- The feed states (R128). -/
inductive FeedState where
  | cut
  | normal
  | low
  | surge
deriving DecidableEq, Repr

/-- The seven counters of consecutive samples (R130). -/
structure Counters where
  belowCut : Nat
  aboveResume : Nat
  belowShed : Nat
  aboveShed : Nat
  surge : Nat
  surgeClear : Nat
  overload : Nat
deriving DecidableEq, Repr

/-- A feed monitor's record (R128). `shedTimer` is the shed step timer's elapsed ms and
`restoreTimer` the samples it has counted; `none` while stopped. -/
structure Monitor where
  st : FeedState
  voltage : Nat
  current : Nat
  window : List Nat
  vavg : Nat
  counters : Counters
  shedTimer : Option Nat
  restoreTimer : Option Nat
deriving DecidableEq, Repr

/-- Why a channel was shed (R136). -/
inductive ShedCause where
  | low
  | overload
deriving DecidableEq, Repr

/-! ### Flash groups (chapter 6) -/

/-- The phases of a flash group (R103). -/
inductive Phase where
  | idle
  | onPhase
  | offPhase
deriving DecidableEq, Repr

/-- A flash group's record (R103); `timer` is the phase timer's ms left, `none` while stopped. -/
structure FlashGroup where
  curPeriod : Nat
  curOn : Nat
  pendPeriod : Nat
  pendOn : Nat
  phase : Phase
  timer : Option Nat
  fast : Bool
deriving DecidableEq, Repr

/-! ### Bridge sequencers (chapter 7) -/

/-- The stages of DEAD (R116). -/
inductive DeadStage where
  | beforeDrive
  | beforeBrake
  | afterBrake
deriving DecidableEq, Repr

/-- A bridge's state with its stage (R115, R116). -/
inductive BridgeState where
  | idle
  | dead (stage : DeadStage)
  | drive
  | brake
deriving DecidableEq, Repr

/-- Why a drive ended (R126); the first five are the ending causes of R116. -/
inductive DriveCause where
  | time
  | maxtime
  | stall
  | released
  | lost
  | tripped
  | supply
deriving DecidableEq, Repr

/-- A bridge sequencer's record (R116). `rest` is the rest timer's elapsed ms while it runs; `none`
is "DEADT, reached" (log 11). -/
structure BridgeRecord where
  st : BridgeState
  dir : Direction
  owner : Option Client
  stageTimer : Option Nat
  driveTimer : Option Nat
  openEnded : Bool
  stall : Nat
  redrive : Bool
  ending : Option DriveCause
  driven : Nat
  lastDrive : Option Nat
  rest : Option Nat
deriving DecidableEq, Repr

/-- How one leg of a bridge stands (R115). -/
inductive Leg where
  | off
  | high
  | low
deriving DecidableEq, Repr

/-! ### Link ports and the mode controller (chapters 9 and 10) -/

/-- The port states (R141). -/
inductive PortState where
  | active
  | busOff
deriving DecidableEq, Repr

/-- A frame in a transmit queue: its identifier and bytes, fixed as it entered (R146). -/
structure TxFrame where
  id : BitVec 11
  data : List Byte
deriving DecidableEq, Repr

/-- A link port's record (R141). `statusTimer` is elapsed ms and `recovery` ms of bus idle; `none`
while stopped. -/
structure PortRecord where
  st : PortState
  queue : List TxFrame
  interval : Nat
  statusTimer : Option Nat
  lost : Bool
  read : Option Ch
  recovery : Option Nat
  txErrors : Nat
  rxErrors : Nat
deriving DecidableEq, Repr

/-- The refusal codes of a REPLY (R144). -/
inductive RefusalCode where
  | unknownKind
  | badFormat
  | badTarget
  | noRight
  | busy
  | state
deriving DecidableEq, Repr

/-- The part's operating states (10, section 10.1). -/
inductive PartState where
  | active
  | sleep
deriving DecidableEq, Repr

end Sys2Proof.Machine
end

