-- ==== Sys2Proof/Machine/Tables.lean ====
section
/-!
DEFINITION. The tables of the silicon (R1, the channel table of 00_scope.md), the values of every
record after power-on reset, and the codes by which frames name states and causes.
-/
namespace Sys2Proof.Machine

/-! ### Types and feeds of the channels (R1) -/

/-- The type of a channel (R1). -/
def typeOf (ch : Ch) : ChannelType :=
  if ch.val < 8 then .lamp
  else if ch.val < 12 then .heater
  else if ch.val < 14 then .fan
  else .bridge

/-- The feed of a channel (R1): feed A carries 0 to 7, 14 and 15, feed B 8 to 13. -/
def feedOf (ch : Ch) : Feed :=
  if ch.val < 8 then .a else if ch.val < 14 then .b else .a

/-- The channels of a feed, in ascending order (R1). -/
def channelsOf (f : Feed) : List Ch := allChannels.filter fun ch => feedOf ch = f

/-- The bridge of a channel, if it is a bridge channel (R1). -/
def bridgeOf (ch : Ch) : Option Bridge :=
  if ch.val = 14 then some .a else if ch.val = 15 then some .b else none

/-- The channel of a bridge. -/
def bridgeChannel : Bridge → Ch
  | .a => 14
  | .b => 15

/-- The channel a channel byte names, if any. -/
def channelOfByte (b : Byte) : Option Ch :=
  if h : b.toNat < 16 then some ⟨b.toNat, h⟩ else none

/-- The feed, port or group a byte names: 0 is A (or 0), 1 is B (or 1), anything else nothing. -/
def sideOfByte (b : Byte) : Option Side :=
  if b.toNat = 0 then some .a else if b.toNat = 1 then some .b else none

/-- The client a CLIENT_CFG's client byte names; 0 and numbers above 4 name none (R31). -/
def clientOfByte (b : Byte) : Option Client :=
  if b.toNat = 1 then some .body
  else if b.toNat = 2 then some .engine
  else if b.toNat = 3 then some .climate
  else if b.toNat = 4 then some .service
  else none

/-- Sense full scale in dA (R1). -/
def ChannelType.fullScale : ChannelType → Nat
  | .lamp => 600
  | .heater => 1000
  | .fan => 1500
  | .bridge => 600

/-- Rated current maximum in dA (R1). -/
def ChannelType.ratedMax : ChannelType → Nat
  | .lamp => 150
  | .heater => 300
  | .fan => 400
  | .bridge => 150

/-- Tmin in µs (R1); a bridge has none and is not modulated. -/
def ChannelType.tmin : ChannelType → Nat
  | .lamp => 40
  | .heater => 5000
  | .fan => 2
  | .bridge => 0

/-- The PWM period range in µs (R1); a bridge has none. -/
def ChannelType.periodRange : ChannelType → Option (Nat × Nat)
  | .lamp => some (2000, 20000)
  | .heater => some (100000, 1000000)
  | .fan => some (40, 100)
  | .bridge => none

/-! ### Profiles after power-on reset (R2) -/

/-- The default CLASS of a channel (the channel table of 00_scope.md). -/
def defaultClass (ch : Ch) : Nat :=
  if ch.val < 6 then 0
  else if ch.val = 6 then 2
  else if ch.val = 7 then 0
  else if ch.val = 9 then 2
  else if ch.val < 12 then 3
  else 1

/-- The default WIRED binding's input (01, section 1.3). -/
def defaultInput (ch : Ch) : Option WiredInput :=
  if ch.val = 0 ∨ ch.val = 1 ∨ ch.val = 5 then some .brake
  else if ch.val = 2 ∨ ch.val = 3 then some .hazard
  else if ch.val = 4 then some .reverse
  else none

/-- The default WIRED binding's mode (01, section 1.3). -/
def defaultMode (ch : Ch) : BindMode :=
  if ch.val = 2 ∨ ch.val = 3 then .flash .a else .steady

/-- The default WIRED binding's duty (01, section 1.3). -/
def defaultBindDuty (ch : Ch) : Nat := if ch.val < 6 then 1000 else 0

/-- The bridge fields' defaults (R2). -/
def BridgeProfile.powerOn : BridgeProfile :=
  { stall := 350, stallt := 60, braket := 100, deadt := 2, idle := .float }

/-- The profile of a channel after power-on reset (R2). -/
def Profile.powerOn (ch : Ch) : Profile :=
  match typeOf ch with
  | .lamp =>
    { cls := defaultClass ch, rated := 80, tau := 13, short := 400, ishort := 600, window := 50
      iclaim := 300, rclaim := 60, retries := 3, openThr := 5, period := some 5000, vt := 240
      silence := some .hold, rightBody := .demand, rightEngine := .none, rightClimate := .none
      bindInput := defaultInput ch, bindMode := defaultMode ch, bindDuty := defaultBindDuty ch
      bridge := none }
  | .heater =>
    { cls := defaultClass ch, rated := 200, tau := 14, short := 700, ishort := 900, window := 20
      iclaim := 250, rclaim := 180, retries := 2, openThr := 20, period := some 500000, vt := 0
      silence := some .release, rightBody := .demand, rightEngine := .inhibit
      rightClimate := .demand
      bindInput := defaultInput ch, bindMode := defaultMode ch, bindDuty := defaultBindDuty ch
      bridge := none }
  | .fan =>
    { cls := defaultClass ch, rated := 300, tau := 12, short := 1200, ishort := 1500, window := 300
      iclaim := 600, rclaim := 280, retries := 3, openThr := 20, period := some 50, vt := 0
      silence := some .hold, rightBody := .none, rightEngine := .demand, rightClimate := .demand
      bindInput := defaultInput ch, bindMode := defaultMode ch, bindDuty := defaultBindDuty ch
      bridge := none }
  | .bridge =>
    { cls := defaultClass ch, rated := 100, tau := 10, short := 450, ishort := 600, window := 100
      iclaim := 300, rclaim := 100, retries := 1, openThr := 0, period := none, vt := 0
      silence := none, rightBody := .demand, rightEngine := .demand, rightClimate := .none
      bindInput := defaultInput ch, bindMode := defaultMode ch, bindDuty := defaultBindDuty ch
      bridge := some BridgeProfile.powerOn }

/-- An empty trip record (R79). -/
def TripRecord.empty : TripRecord :=
  { cause := .none, rms := 0, q := 0, vavg := 0, tripFrom := .none, pending := 0, count := 0 }

/-- The channel record after power-on reset (R23, R50, R72, R87, R102). -/
def Channel.powerOn (ch : Ch) : Channel :=
  { st := .off, profile := Profile.powerOn ch, default := true, wish := false, inhibited := false
    pending := 0, applied := 0, periodTimer := none, onTime := 0, q := 0, tripCount := 0
    trip := TripRecord.empty, window := none, goodRun := none, lowCount := 0, goodCount := 0
    openFlag := false, stamp := none, lastRms := 0, lastOn := none
    conducted := false }

/-! ### The other records after power-on reset -/

/-- No entry on a channel (R50). -/
def emptySlots : PerClient (Option Entry) := ⟨none, none, none, none, none⟩

/-- The client table after power-on reset (R26). -/
def clientsPowerOn : PerClient ClientRecord :=
  { wired := { st := .active, timeout := 500, silence := none, lastPort := none }
    body := { st := .absent, timeout := 500, silence := none, lastPort := some .a }
    engine := { st := .absent, timeout := 500, silence := none, lastPort := some .b }
    climate := { st := .absent, timeout := 500, silence := none, lastPort := some .a }
    service := { st := .absent, timeout := 500, silence := none, lastPort := none } }

/-- A pin after power-on reset (R49); the raw level before the first sample is log 8's choice. -/
def PinRecord.powerOn : PinRecord := { raw := false, level := false, count := 0 }

/-- An admission unit after power-on reset (R51, R68). -/
def Admission.powerOn : Feed → Admission
  | .a => { peak := 1200, cont := 600, vshed := 200, queue := [], sumS := 0, sumR := 0
            hold := none, counter := 0 }
  | .b => { peak := 2500, cont := 1500, vshed := 200, queue := [], sumS := 0, sumR := 0
            hold := none, counter := 0 }

/-- All seven counters at 0 (R130). -/
def Counters.zero : Counters :=
  { belowCut := 0, aboveResume := 0, belowShed := 0, aboveShed := 0, surge := 0, surgeClear := 0
    overload := 0 }

/-- A feed monitor after power-on reset (R128). -/
def Monitor.powerOn : Monitor :=
  { st := .cut, voltage := 0, current := 0, window := [], vavg := 0, counters := Counters.zero
    shedTimer := none, restoreTimer := none }

/-- A flash group after power-on reset (R103). -/
def FlashGroup.powerOn : FlashGroup :=
  { curPeriod := 667, curOn := 500, pendPeriod := 667, pendOn := 500, phase := .idle
    timer := none, fast := false }

/-- A bridge sequencer after power-on reset (R116). -/
def BridgeRecord.powerOn : BridgeRecord :=
  { st := .idle, dir := .forward, owner := none, stageTimer := none, driveTimer := none
    openEnded := false, stall := 0, redrive := false, ending := none, driven := 0
    lastDrive := none, rest := none }

/-- A link port after power-on reset (R141). -/
def PortRecord.powerOn : PortRecord :=
  { st := .active, queue := [], interval := 100, statusTimer := some 0, lost := false, read := none
    recovery := none, txErrors := 0, rxErrors := 0 }

/-! ### Codes of report frames -/

/-- The state code of CHANNEL STATUS (01, section 1.4). -/
def ChState.code : ChState → Nat
  | .off => 0
  | .waiting => 1
  | .ramping => 2
  | .on => 3
  | .tripped => 4
  | .locked => 5
  | .shed => 6
  | .suspended => 7

/-- The feed state code (R139). -/
def FeedState.code : FeedState → Nat
  | .cut => 0
  | .normal => 1
  | .low => 2
  | .surge => 3

/-- The client state code of SUMMARY byte 7 (09, section 9.9). -/
def ClientState.code : ClientState → Nat
  | .absent => 0
  | .active => 1
  | .lost => 2

/-- The trip cause code (R151, R153). -/
def TripCause.code : TripCause → Nat
  | .none => 0
  | .thermal => 1
  | .short => 2

/-- The code of the state tripped from (R151, R153). -/
def TripFrom.code : TripFrom → Nat
  | .none => 0
  | .ramping => 2
  | .on => 3

/-- The shed cause code (R151). -/
def ShedCause.code : ShedCause → Nat
  | .low => 1
  | .overload => 2

/-- The hold end cause code (R151). -/
def HoldCause.code : HoldCause → Nat
  | .unhold => 1
  | .expired => 2
  | .lost => 3

/-- The DRIVE_END cause code (R126). -/
def DriveCause.code : DriveCause → Nat
  | .time => 1
  | .maxtime => 2
  | .stall => 3
  | .released => 4
  | .lost => 5
  | .tripped => 6
  | .supply => 7

/-- The direction code of DRIVE_END (R126). -/
def Direction.code : Direction → Nat
  | .forward => 0
  | .reverse => 1

/-- The refusal code (R144). -/
def RefusalCode.code : RefusalCode → Nat
  | .unknownKind => 1
  | .badFormat => 2
  | .badTarget => 3
  | .noRight => 4
  | .busy => 5
  | .state => 6

/-- The bridge state code of CHANNEL STATUS (R115). -/
def BridgeRecord.code (b : BridgeRecord) : Nat :=
  match b.st with
  | .idle => 0
  | .drive => match b.dir with
    | .forward => 1
    | .reverse => 2
  | .brake => 3
  | .dead _ => 4

end Sys2Proof.Machine
end

