-- ==== Sys2Proof/Syntax.lean ====
section
/-!
DEFINITION. The commands of the AZ680, one constructor for each row of spec/opcode_table.json.

A request frame is one command: its source (port and client) and the fields of its layout
(09_network_ports_and_frames.md, section 9.9), as they were received. A sample is one command with
the values its converter delivers. An expiry names the timer that runs out. A row that names what
comes about inside a larger step (OPEN_SET inside a sense sample, FEED_STATE_CHANGE inside a feed
sample, FLASH_DONE inside an ON_PHASE end) is that larger step, with its operands, when it brings
the named thing about (DESIGN CHOICE, log 4).
-/
namespace Sys2Proof

inductive Instr where
  /-- POWER_ON_RESET (R158): VKEEP rises through 6.0 V; the straps read `zone`. -/
  | powerOnReset (zone : Fin 4)
  /-- VKEEP_LOSS (R159): VKEEP falls below 6.0 V. -/
  | vkeepLoss
  /-- PRESENT (R27). -/
  | present (src : Source)
  /-- SET_STEADY (R38): channel byte and duty. -/
  | setSteady (src : Source) (ch : Byte) (duty : Half)
  /-- SET_TIMED (R38): channel byte, duty, duration in 10 ms units. -/
  | setTimed (src : Source) (ch : Byte) (duty duration : Half)
  /-- SET_FLASH (R38): channel byte, duty, group byte, count. -/
  | setFlash (src : Source) (ch : Byte) (duty : Half) (group count : Byte)
  /-- SET_INHIBIT (R44): channel byte. -/
  | setInhibit (src : Source) (ch : Byte)
  /-- DRIVE (R39): channel byte, direction byte, duration in 10 ms units. -/
  | drive (src : Source) (ch direction : Byte) (duration : Half)
  /-- RELEASE (R40): channel byte, or 0xFF for all channels. -/
  | release (src : Source) (ch : Byte)
  /-- CLEAR (R20): channel byte. -/
  | clear (src : Source) (ch : Byte)
  /-- HOLD (R63): feed byte, level, duration in 100 ms units. -/
  | hold (src : Source) (feed level duration : Byte)
  /-- UNHOLD (R64): feed byte. -/
  | unhold (src : Source) (feed : Byte)
  /-- FLASH_CFG (R104): group byte, PERIOD in ms, ON share. -/
  | flashCfg (src : Source) (group : Byte) (period onShare : Half)
  /-- PROFILE_A (R4): channel byte, CLASS, TAU, RATED, SHORT. -/
  | profileA (src : Source) (ch : Byte) (cls tau : BitVec 4) (rated short : Half)
  /-- PROFILE_B (R5): channel byte, ISHORT, WINDOW, RETRIES, OPEN. -/
  | profileB (src : Source) (ch : Byte) (ishort window : Half) (retries openThr : Byte)
  /-- PROFILE_C (R6): channel byte, ICLAIM, RCLAIM, SILENCE code. -/
  | profileC (src : Source) (ch : Byte) (iclaim rclaim : Half) (silence : Byte)
  /-- PROFILE_D (R7): channel byte, PERIOD in µs, VT. -/
  | profileD (src : Source) (ch : Byte) (period : BitVec 24) (vt : Half)
  /-- PROFILE_E (R8): channel byte, rights byte, wired input code, wired mode code, wired duty. -/
  | profileE (src : Source) (ch rights input mode : Byte) (duty : Half)
  /-- PROFILE_F (R9): channel byte, STALL, STALLT / 10, BRAKET / 10, DEADT, IDLE code. -/
  | profileF (src : Source) (ch : Byte) (stall : Half) (stallt braket deadt idle : Byte)
  /-- FEED_CFG (R52): feed byte, PEAK, CONT, VSHED. -/
  | feedCfg (src : Source) (feed : Byte) (peak cont vshed : Half)
  /-- CLIENT_CFG (R31): client byte, timeout in ms. -/
  | clientCfg (src : Source) (client : Byte) (timeout : Half)
  /-- STATUS_CFG (R150): port byte, interval in ms. -/
  | statusCfg (src : Source) (port : Byte) (interval : Half)
  /-- READ (R152): channel byte. -/
  | read (src : Source) (ch : Byte)
  /-- RESET (R164). -/
  | reset (src : Source)
  /-- FRAME_IGNORED (R142): a received frame that a port ignores. -/
  | frameIgnored (port : Port) (f : CanFrame)
  /-- FRAME_REFUSED_BY_PORT (R143): a frame taken from a client whose kind or length is refused. -/
  | frameRefusedByPort (port : Port) (f : CanFrame)
  /-- SENSE_SAMPLE (R69, R73): a channel's sample, RMS current and on-current in dA. -/
  | senseSample (ch : Ch) (rms : Nat) (onCur : Option Nat)
  /-- OPEN_SET (R83): the sample that sets the OPEN flag. -/
  | openSet (ch : Ch) (rms : Nat) (onCur : Option Nat)
  /-- OPEN_CLEAR (R84): the sample that clears the OPEN flag. -/
  | openClear (ch : Ch) (rms : Nat) (onCur : Option Nat)
  /-- INRUSH_WINDOW_EXPIRY (R17). -/
  | inrushWindowExpiry (ch : Ch)
  /-- GOOD_RUN_TIMER_EXPIRY (R21). -/
  | goodRunTimerExpiry (ch : Ch)
  /-- PERIOD_START (R90). -/
  | periodStart (ch : Ch)
  /-- TIMED_EXPIRY (R41): the TIMED entry of a client on a channel runs out. -/
  | timedExpiry (ch : Ch) (client : Client)
  /-- SILENCE_EXPIRY (R28). -/
  | silenceExpiry (client : Client)
  /-- INPUT_ACTIVATION (R46): the wired sample that makes the input's debounced level active. -/
  | inputActivation (input : WiredInput) (levels : PinLevels)
  /-- INPUT_DEACTIVATION (R47): the wired sample that makes the input's debounced level inactive. -/
  | inputDeactivation (input : WiredInput) (levels : PinLevels)
  /-- KEY_CHANGE (R161): the wired sample that changes KEY's debounced level. -/
  | keyChange (levels : PinLevels)
  /-- ADMIT_DELAY (R66): a queued channel's ADMIT_DELAY timer reaches 5,000 ms. -/
  | admitDelay (ch : Ch)
  /-- HOLD_EXPIRY (R65). -/
  | holdExpiry (feed : Feed)
  /-- FEED_SAMPLE (R129): voltage in dV and current in dA. -/
  | feedSample (feed : Feed) (voltage current : Nat)
  /-- FEED_STATE_CHANGE (R131): the feed sample that changes the feed state. -/
  | feedStateChange (feed : Feed) (voltage current : Nat)
  /-- SHED_STEP (R134): the shed step timer reaches 200 ms in LOW. -/
  | shedStep (feed : Feed)
  /-- OVERLOAD_SHED (R137): the feed sample on which the overload counter reaches 1000. -/
  | overloadShed (feed : Feed) (voltage current : Nat)
  /-- RESTORE (R138): the feed sample on which the restore timer reaches 2000. -/
  | restore (feed : Feed) (voltage current : Nat)
  /-- ON_PHASE_END (R111). -/
  | onPhaseEnd (group : Group)
  /-- FLASH_DONE (R111): the ON_PHASE end that uses up the count of a client's entry on a channel. -/
  | flashDone (group : Group) (ch : Ch) (client : Client)
  /-- OFF_PHASE_END (R109). -/
  | offPhaseEnd (group : Group)
  /-- DEAD_BEFORE_DRIVE_EXPIRY (R118). -/
  | deadBeforeDriveExpiry (bridge : Bridge)
  /-- DRIVE_TIMER_EXPIRY (R119). -/
  | driveTimerExpiry (bridge : Bridge)
  /-- STALL_END (R120): the sample on which the stall counter reaches STALLT. -/
  | stallEnd (bridge : Bridge) (rms : Nat) (onCur : Option Nat)
  /-- DEAD_BEFORE_BRAKE_EXPIRY (R121). -/
  | deadBeforeBrakeExpiry (bridge : Bridge)
  /-- BRAKE_EXPIRY (R121). -/
  | brakeExpiry (bridge : Bridge)
  /-- DEAD_AFTER_BRAKE_EXPIRY (R121, R122). -/
  | deadAfterBrakeExpiry (bridge : Bridge)
  /-- REST_TIMER_EXPIRY (R125). -/
  | restTimerExpiry (bridge : Bridge)
  /-- STATUS_ROUND (R149). -/
  | statusRound (port : Port)
  /-- TRANSMIT_COMPLETE (R146): the head frame of the port's queue has been sent. -/
  | transmitComplete (port : Port)
  /-- READ_COMPLETION (R153): the pending read finds three free slots. -/
  | readCompletion (port : Port)
  /-- TRANSMIT_ERROR (R154): an error in a frame the port transmits. -/
  | transmitError (port : Port)
  /-- BUS_OFF (R154): the error that takes the transmit error count past 255. -/
  | busOff (port : Port)
  /-- BUS_RECOVERY (R155): the recovery timer reaches 200 ms. -/
  | busRecovery (port : Port)
  /-- SLEEP_ENTRY (R161). -/
  | sleepEntry
  /-- WAKE (R163): the change of the part that a wake cause makes; the cause itself is then taken
  as a command of its own. -/
  | wake (cause : WakeCause)
  /-- WIRED_INPUT_SAMPLE (R45): one sample of the four pins. -/
  | wiredInputSample (levels : PinLevels)
  /-- BUS_ACTIVITY (R155): a frame or an error seen on the bus of a port. -/
  | busActivity (port : Port)
deriving DecidableEq, Repr

end Sys2Proof
end

