-- ==== Sys2Proof/Machine/State.lean ====
section
/-!
DEFINITION. The state of the AZ680: every record of every block, and the queue of the commands that
wait. Plain data. The state after reset is the state after power-on reset (R158).
-/
namespace Sys2Proof.Machine

/-- The whole part. `powered` is false from a VKEEP loss to the next power-on reset (R159).
`quiet` is the sleep quiet timer: `some n` for n ms, standing at 5,000; `none` while stopped in
SLEEP (R160). `restCh` and `restIn` are the mode controller's rest conditions (R161); `restIn` is
true for an active input. `freeIndex` is the model's own field, the index of the next free value
(log 7). `pending` is the queue of waiting commands, first in, first out. -/
structure State where
  powered : Bool
  zone : Fin 4
  part : PartState
  quiet : Option Nat
  restCh : Vector Bool 16
  restIn : PerPin Bool
  chans : Vector Channel 16
  demand : Vector (PerClient (Option Entry)) 16
  clients : PerClient ClientRecord
  pins : PerPin PinRecord
  placed : PerInput (List Ch)
  adm : Pair Admission
  mon : Pair Monitor
  groups : Pair FlashGroup
  bridges : Pair BridgeRecord
  ports : Pair PortRecord
  freeIndex : Nat
  pending : List Instr
deriving DecidableEq, Repr

/-- The ways the part stops with a fault: none. The spec names no event after which the part neither
goes on nor waits for power; refused requests, trips, full queues and bus errors all have effects.
No meaning raises a fault, so nothing is lost or gained by it (safe). -/
inductive Fault where
deriving DecidableEq, Repr

/-- The ways the model has no answer. -/
inductive Refusal where
  /-- Raised by an arm of `exec` whose command has no meaning yet, under the command's mnemonic.
  Safe: the model stops where the part goes on. No arm raises it now. -/
  | notModelled (mnemonic : String)
deriving DecidableEq, Repr

/-- The part after a power-on reset that reads `zone` from the straps (R158). -/
def State.powerOn (zone : Fin 4) : State :=
  { powered := true
    zone := zone
    part := .active
    quiet := some 0
    restCh := Vector.replicate 16 true
    restIn := ⟨false, false, false, false⟩
    chans := Vector.ofFn Channel.powerOn
    demand := Vector.replicate 16 emptySlots
    clients := clientsPowerOn
    pins := ⟨PinRecord.powerOn, PinRecord.powerOn, PinRecord.powerOn, PinRecord.powerOn⟩
    placed := ⟨[], [], []⟩
    adm := ⟨Admission.powerOn .a, Admission.powerOn .b⟩
    mon := ⟨Monitor.powerOn, Monitor.powerOn⟩
    groups := ⟨FlashGroup.powerOn, FlashGroup.powerOn⟩
    bridges := ⟨BridgeRecord.powerOn, BridgeRecord.powerOn⟩
    ports := ⟨PortRecord.powerOn, PortRecord.powerOn⟩
    freeIndex := 0
    pending := [] }

/-- The part right after reset: the power-on values of every block (R158), the zone address as the
straps give it (log 6), no command waiting. -/
def State.reset : State := State.powerOn Config.strapZone

end Sys2Proof.Machine
end

