-- ==== Sys2Proof/Machine/Ops.lean ====
section
/-!
DEFINITION. The named reads and writes of State, one pair for each kind of record, and the plain
arithmetic the rules share. Every meaning goes through these.
-/
namespace Sys2Proof.Machine

/-! ### Arithmetic (00, "Arithmetic") -/

/-- "Clamped": a value above the range becomes its upper bound, one below its lower bound. -/
def clamp (lo hi n : Nat) : Nat := max lo (min hi n)

/-- A byte of a report frame. -/
def byte (n : Nat) : Byte := BitVec.ofNat 8 n

/-- A two-byte field, most significant byte first (00, "Frames"). -/
def half (n : Nat) : List Byte := [byte (n / 256), byte n]

/-- A flag as the number it adds to a byte. -/
def flagBit (b : Bool) (weight : Nat) : Nat := if b then weight else 0

/-- One millisecond less on a timer that counts down. -/
def countDown : Option Nat → Option Nat
  | none => none
  | some n => some (n - 1)

/-- One millisecond more on a timer that counts up to a limit. -/
def countUp (limit : Nat) : Option Nat → Option Nat
  | none => none
  | some n => some (min limit (n + 1))

/-- A timer that runs and has no time left. -/
def ranOut : Option Nat → Bool
  | some 0 => true
  | _ => false

/-- A timer that runs and has reached its limit. -/
def reached (limit : Nat) : Option Nat → Bool
  | some n => decide (limit ≤ n)
  | none => false

/-! ### Reads and writes of records -/

/-- The record of a channel. -/
def State.chan (s : State) (ch : Ch) : Channel := s.chans[ch]

/-- Replace the record of a channel. -/
def State.setChan (s : State) (ch : Ch) (c : Channel) : State :=
  { s with chans := s.chans.set ch c }

/-- The slot of a channel and a client (R35). -/
def State.slot (s : State) (ch : Ch) (cl : Client) : Option Entry := (s.demand[ch]).get cl

/-- Replace what a slot holds. -/
def State.setSlot (s : State) (ch : Ch) (cl : Client) (e : Option Entry) : State :=
  { s with demand := s.demand.set ch ((s.demand[ch]).set cl e) }

/-- The record of a client (R26). -/
def State.client (s : State) (cl : Client) : ClientRecord := s.clients.get cl

/-- Replace the record of a client. -/
def State.setClient (s : State) (cl : Client) (r : ClientRecord) : State :=
  { s with clients := s.clients.set cl r }

/-- The admission unit of a feed. -/
def State.unit (s : State) (f : Feed) : Admission := s.adm.get f

/-- Replace the admission unit of a feed. -/
def State.setUnit (s : State) (f : Feed) (u : Admission) : State := { s with adm := s.adm.set f u }

/-- The monitor of a feed. -/
def State.monitor (s : State) (f : Feed) : Monitor := s.mon.get f

/-- Replace the monitor of a feed. -/
def State.setMonitor (s : State) (f : Feed) (m : Monitor) : State :=
  { s with mon := s.mon.set f m }

/-- The record of a flash group. -/
def State.group (s : State) (g : Group) : FlashGroup := s.groups.get g

/-- Replace the record of a flash group. -/
def State.setGroup (s : State) (g : Group) (r : FlashGroup) : State :=
  { s with groups := s.groups.set g r }

/-- The sequencer of a bridge. -/
def State.bridge (s : State) (br : Bridge) : BridgeRecord := s.bridges.get br

/-- Replace the sequencer of a bridge. -/
def State.setBridge (s : State) (br : Bridge) (r : BridgeRecord) : State :=
  { s with bridges := s.bridges.set br r }

/-- The record of a port. -/
def State.port (s : State) (p : Port) : PortRecord := s.ports.get p

/-- Replace the record of a port. -/
def State.setPort (s : State) (p : Port) (r : PortRecord) : State :=
  { s with ports := s.ports.set p r }

/-- Apply a change to each channel of a list, in the list's order. -/
def State.overChannels (s : State) (f : Ch → State → State) (l : List Ch) : State :=
  l.foldl (fun s ch => f ch s) s

/-! ### Short names for facts the rules ask often -/

/-- A channel that is RAMPING or ON: the states in which it is admitted (R11, R53). -/
def Channel.admitted (c : Channel) : Bool := c.st = .ramping || c.st = .on

/-- The claim a channel holds on its feed: ICLAIM while RAMPING, RCLAIM while ON (R53). -/
def Channel.presentClaim (c : Channel) : Nat :=
  match c.st with
  | .ramping => c.profile.iclaim
  | .on => c.profile.rclaim
  | _ => 0

/-- Ltrip (R75). -/
def Channel.ltrip (c : Channel) : Nat := c.profile.rated * c.profile.rated * 256

/-- Lrestart (R75). -/
def Channel.lrestart (c : Channel) : Nat := c.profile.rated * c.profile.rated * 64

/-- The bridge fields of a profile; a profile that does not hold them is never asked. -/
def Profile.bridgeFields (p : Profile) : BridgeProfile := p.bridge.getD BridgeProfile.powerOn

/-- The bridge fields of a bridge's channel. -/
def State.bridgeProfile (s : State) (br : Bridge) : BridgeProfile :=
  (s.chan (bridgeChannel br)).profile.bridgeFields

/-- The pin of a wired input. -/
def pinOf : WiredInput → Pin
  | .brake => .brake
  | .hazard => .hazard
  | .reverse => .reverse

/-- The debounced level of a pin. -/
def State.level (s : State) (p : Pin) : Bool := (s.pins.get p).level

/-- Every pair of channel and client, channels ascending and clients ascending within one. -/
def allSlots : List (Ch × Client) :=
  allChannels.flatMap fun ch => Client.all.map fun cl => (ch, cl)

/-- Apply a change to each slot of a list, in the list's order. -/
def State.overSlots (s : State) (f : Ch → Client → State → State) (l : List (Ch × Client)) :
    State :=
  l.foldl (fun s x => f x.1 x.2 s) s

end Sys2Proof.Machine
end

