-- ==== Sys2Proof/Machine/Operands.lean ====
section
/-!
DEFINITION. How the fields of a request are read: the codes of the enumerated fields (09, section
9.9, "a code above the highest listed takes the highest listed", R3) and the clamping of the
numeric ones (R4 to R9, R37, R52, R63, R104, R150, R31).
-/
namespace Sys2Proof.Machine

/-! ### Enumerated codes -/

/-- SILENCE: 0 HOLD, 1 RELEASE. -/
def silenceOfCode (b : Byte) : Silence := if b.toNat = 0 then .hold else .release

/-- IDLE: 0 FLOAT, 1 BRAKE. -/
def idleOfCode (b : Byte) : IdleLegs := if b.toNat = 0 then .float else .brake

/-- Direction: 0 FORWARD, any other value REVERSE (R37). -/
def directionOfCode (b : Byte) : Direction := if b.toNat = 0 then .forward else .reverse

/-- Wired input: 0 NONE, 1 BRAKE, 2 HAZARD, 3 REVERSE. -/
def inputOfCode (b : Byte) : Option WiredInput :=
  match b.toNat with
  | 0 => none
  | 1 => some .brake
  | 2 => some .hazard
  | _ => some .reverse

/-- Wired mode: 0 steady, 1 flash group 0, 2 flash group 1. -/
def modeOfCode (b : Byte) : BindMode :=
  match b.toNat with
  | 0 => .steady
  | 1 => .flash .a
  | _ => .flash .b

/-- One two-bit right of the rights byte: 0 NONE, 1 DEMAND, 2 INHIBIT, 3 BOTH. -/
def rightOfCode (n : Nat) : Right :=
  match n % 4 with
  | 0 => .none
  | 1 => .demand
  | 2 => .inhibit
  | _ => .both

/-- INHIBIT stripped from a right: INHIBIT becomes NONE and BOTH becomes DEMAND (R4). -/
def Right.strip : Right → Right
  | .none => .none
  | .demand => .demand
  | .inhibit => .none
  | .both => .demand

/-- Whether a right allows the power-giving kinds. -/
def Right.mayDemand : Right → Bool
  | .demand => true
  | .both => true
  | _ => false

/-- Whether a right allows SET_INHIBIT. -/
def Right.mayInhibit : Right → Bool
  | .inhibit => true
  | .both => true
  | _ => false

/-- A profile with INHIBIT stripped from the three rights (R4, R8). -/
def Profile.stripInhibit (p : Profile) : Profile :=
  { p with rightBody := p.rightBody.strip, rightEngine := p.rightEngine.strip
           rightClimate := p.rightClimate.strip }

/-! ### Profiles as the accepted requests write them -/

/-- PROFILE_A (R4): CLASS, TAU, RATED, SHORT clamped in that order, ISHORT raised to SHORT, and
INHIBIT stripped from the rights when the new CLASS is 0. -/
def Profile.writeA (t : ChannelType) (cls tau : BitVec 4) (rated short : Half) (p : Profile) :
    Profile :=
  let cls' := clamp 0 3 cls.toNat
  let rated' := clamp 5 t.ratedMax rated.toNat
  let short' := clamp rated' t.fullScale short.toNat
  let p' := { p with cls := cls', tau := clamp 6 14 tau.toNat, rated := rated', short := short'
                     ishort := max p.ishort short' }
  if cls' = 0 then p'.stripInhibit else p'

/-- PROFILE_B (R5). -/
def Profile.writeB (t : ChannelType) (ishort window : Half) (retries openThr : Byte)
    (p : Profile) : Profile :=
  { p with ishort := clamp p.short t.fullScale ishort.toNat, window := clamp 1 500 window.toNat
           retries := clamp 0 7 retries.toNat, openThr := clamp 0 100 openThr.toNat }

/-- PROFILE_C (R6), with the PEAK and CONT of the channel's feed; a bridge keeps no SILENCE. -/
def Profile.writeC (t : ChannelType) (peak cont : Nat) (iclaim rclaim : Half) (silence : Byte)
    (p : Profile) : Profile :=
  let iclaim' := clamp 0 peak iclaim.toNat
  { p with iclaim := iclaim', rclaim := clamp 0 (min iclaim' cont) rclaim.toNat
           silence := if t = .bridge then none else some (silenceOfCode silence) }

/-- VT as PROFILE_D stores it (R7). -/
def vtStored (t : ChannelType) (vt : Half) : Nat :=
  if t = .lamp then (if vt.toNat = 0 then 0 else clamp 200 280 vt.toNat) else 0

/-- PROFILE_D (R7); a bridge keeps no PERIOD. -/
def Profile.writeD (t : ChannelType) (period : BitVec 24) (vt : Half) (p : Profile) : Profile :=
  { p with period := t.periodRange.map fun r => clamp r.1 r.2 period.toNat
           vt := vtStored t vt }

/-- The WIRED binding's input as PROFILE_E stores it (R8). -/
def bindInputStored (t : ChannelType) (input : Byte) : Option WiredInput :=
  if t = .bridge then none else inputOfCode input

/-- The WIRED binding's mode as PROFILE_E stores it (R8): a flash mode only on a lamp. -/
def bindModeStored (t : ChannelType) (mode : Byte) : BindMode :=
  if t = .lamp then modeOfCode mode else .steady

/-- PROFILE_E (R8): rights, stripped of INHIBIT on a bridge and on a class 0 channel, and the
binding. -/
def Profile.writeE (t : ChannelType) (rights input mode : Byte) (duty : Half) (p : Profile) :
    Profile :=
  let p' := { p with rightBody := rightOfCode rights.toNat
                     rightEngine := rightOfCode (rights.toNat / 4)
                     rightClimate := rightOfCode (rights.toNat / 16)
                     bindInput := bindInputStored t input, bindMode := bindModeStored t mode
                     bindDuty := clamp 0 1000 duty.toNat }
  if t = .bridge ∨ p.cls = 0 then p'.stripInhibit else p'

/-- PROFILE_F (R9); STALLT and BRAKET are carried in 10 ms units. -/
def Profile.writeF (stall : Half) (stallt braket deadt idle : Byte) (p : Profile) : Profile :=
  { p with bridge := some { stall := clamp 0 600 stall.toNat
                            stallt := clamp 10 500 (10 * stallt.toNat)
                            braket := clamp 10 500 (10 * braket.toNat)
                            deadt := clamp 1 50 deadt.toNat, idle := idleOfCode idle } }

/-- What FEED_CFG does to the claims of a channel of the feed (R52). -/
def Profile.clampClaims (peak cont : Nat) (p : Profile) : Profile :=
  let iclaim' := min p.iclaim peak
  { p with iclaim := iclaim', rclaim := min p.rclaim (min iclaim' cont) }

/-! ### Fields of the other requests -/

/-- A duty as it is recorded (R37). -/
def dutyRecorded (duty : Half) : Nat := min 1000 duty.toNat

/-- A SET_TIMED duration as it is recorded (R37). -/
def timedRecorded (duration : Half) : Nat := clamp 1 60000 duration.toNat

/-- A DRIVE duration as it is recorded (R37); 0 is open-ended. -/
def driveRecorded (duration : Half) : Nat := min 1000 duration.toNat

/-- The time a hold is given, in ms (R63). -/
def holdTime (duration : Byte) : Nat := 100 * clamp 1 100 duration.toNat

/-- The level a hold is given (R63). -/
def holdLevel (level : Byte) : Nat := clamp 1 3 level.toNat

/-! ### What a sense converter and a feed converter deliver -/

/-- The on-current a sample delivers: saturated at the type's full scale (R69). -/
def deliveredOn (t : ChannelType) (onCur : Option Nat) : Option Nat :=
  onCur.map fun o => min t.fullScale o

/-- The RMS current a sample delivers: saturated at the type's full scale, and 0 when the output did
not conduct at any time in the interval (R69, log 30). -/
def deliveredRms (t : ChannelType) (rms : Nat) (onCur : Option Nat) : Nat :=
  match onCur with
  | none => 0
  | some _ => min t.fullScale rms

end Sys2Proof.Machine
end

