-- ==== Sys2Proof/Machine/Flags.lean ====
section
/-!
DEFINITION. Every derived flag and value the part reports or decides by: the combined demand (R42),
the block level (R57), headroom and over-budget (R67), the rest conditions (R161), the conduction of
an output (R11, R89) and the legs of a bridge (R115, R125).
-/
namespace Sys2Proof.Machine

/-! ### Demand (R42) -/

/-- Whether an entry asks for power. -/
def Entry.givesPower : Entry → Bool
  | .inhibit => false
  | _ => true

/-- Whether an entry is an INHIBIT entry. -/
def Entry.isInhibit : Entry → Bool
  | .inhibit => true
  | _ => false

/-- Whether an entry carries the held mark (R30). -/
def Entry.isHeld : Entry → Bool
  | .steady _ held => held
  | .flash _ _ _ _ _ held => held
  | _ => false

/-- The flash group an entry references, if it is a FLASH entry (06, section 6.4). -/
def Entry.flashGroup : Entry → Option Group
  | .flash _ g _ _ _ _ => some g
  | _ => none

/-- An entry's momentary value (R42), with the phases of the groups. -/
def Entry.momentary (groups : Pair FlashGroup) : Entry → Nat
  | .steady d _ => d
  | .timed d _ _ => d
  | .flash d g _ _ started _ => if started && (groups.get g).phase = .onPhase then d else 0
  | .drive _ _ _ => 1000
  | .inhibit => 0

/-- The entries that stand on a channel, in ascending order of client. -/
def State.entries (s : State) (ch : Ch) : List Entry := Client.all.filterMap (s.slot ch)

/-- The combined demand of a channel (R42). -/
def State.combined (s : State) (ch : Ch) : Combined :=
  let es := s.entries ch
  let inh := es.any Entry.isInhibit
  { inhibited := inh
    wants := !inh && es.any Entry.givesPower
    duty := if inh then 0 else (es.map (Entry.momentary s.groups)).foldl max 0 }

/-- The HELD flag of a channel (R30). -/
def State.heldFlag (s : State) (ch : Ch) : Bool := (s.entries ch).any Entry.isHeld

/-- Whether a slot holds a FLASH entry on the group. -/
def State.flashesOn (s : State) (g : Group) (ch : Ch) (cl : Client) : Bool :=
  ((s.slot ch cl).bind Entry.flashGroup) = some g

/-- Whether a channel holds a FLASH entry on the group, of any client. -/
def State.channelFlashes (s : State) (g : Group) (ch : Ch) : Bool :=
  Client.all.any (s.flashesOn g ch)

/-- The channels that hold a FLASH entry on the group, ascending. -/
def State.flashChannels (s : State) (g : Group) : List Ch := allChannels.filter (s.channelFlashes g)

/-- The fast flag as it is computed at a cycle start (R110). -/
def State.fastFlag (s : State) (g : Group) : Bool :=
  (s.flashChannels g).any fun ch => (s.chan ch).openFlag

/-! ### Flash timing (R105) -/

/-- The effective period P. -/
def FlashGroup.effective (r : FlashGroup) : Nat := if r.fast then r.curPeriod / 2 else r.curPeriod

/-- The length of ON_PHASE. -/
def FlashGroup.onLength (r : FlashGroup) : Nat := r.effective * r.curOn / 1000

/-- The length of OFF_PHASE. -/
def FlashGroup.offLength (r : FlashGroup) : Nat := r.effective - r.onLength

/-! ### Rights (R33) -/

/-- The right of a client on a channel; `none` for WIRED and SERVICE, whose rights are fixed. -/
def Profile.rightOf (p : Profile) : Client → Option Right
  | .body => some p.rightBody
  | .engine => some p.rightEngine
  | .climate => some p.rightClimate
  | .wired => none
  | .service => none

/-- The right that SET_STEADY, SET_TIMED, SET_FLASH and DRIVE need (R33). -/
def Profile.allowsDemand (p : Profile) (cl : Client) : Bool :=
  match p.rightOf cl with
  | some r => r.mayDemand
  | none => cl = .service

/-- The right that SET_INHIBIT needs (R33); SERVICE is refused. -/
def Profile.allowsInhibit (p : Profile) (cl : Client) : Bool :=
  match p.rightOf cl with
  | some r => r.mayInhibit
  | none => false

/-- The right that CLEAR needs (R33). -/
def Profile.allowsClear (p : Profile) (cl : Client) : Bool :=
  match p.rightOf cl with
  | some r => r.mayDemand || r.mayInhibit
  | none => cl = .service

/-- The hold right (R34, R63). -/
def mayHold (cl : Client) : Bool := cl = .engine || cl = .service

/-- The right to FLASH_CFG (R34, R104). -/
def mayFlashCfg (cl : Client) : Bool := cl = .body || cl = .service

/-! ### Admission (R57, R59, R67) -/

/-- The block level L of a feed (R57). -/
def State.blockLevel (s : State) (f : Feed) : Nat :=
  let held := match (s.unit f).hold with
    | some h => h.level
    | none => 4
  let byState := match (s.monitor f).st with
    | .low => 2
    | .surge => 2
    | _ => 4
  min held (min byState 4)

/-- The over-budget flag of a feed (R67). -/
def Admission.overBudget (u : Admission) : Bool := u.peak < u.sumS || u.cont < u.sumR

/-- The headroom of a feed, in whole amperes (R67). -/
def Admission.headroom (u : Admission) : Nat := min 255 ((u.peak - u.sumS) / 10)

/-- The hold level of SUMMARY: 0 when the record is empty (R67). -/
def Admission.holdLevel (u : Admission) : Nat :=
  match u.hold with
  | some h => h.level
  | none => 0

/-! ### Rest conditions (R161) -/

/-- A channel is at rest when it is OFF or LOCKED and its Q is at most its Lrestart. -/
def Channel.atRest (c : Channel) : Bool :=
  (c.st = .off || c.st = .locked) && c.q ≤ c.lrestart

/-- The four conditions of sleep entry (R161), as the mode controller holds them. -/
def State.sleepReady (s : State) : Bool :=
  !s.restIn.key && !s.restIn.brake && !s.restIn.hazard && !s.restIn.reverse
    && allChannels.all (fun ch => s.restCh[ch]) && s.quiet = some 5000

/-! ### Outputs -/

/-- Whether a PWM channel stands in the on-part of its period (R11, R89): RAMPING or ON, with the period
timer's position below the on-time. -/
def Channel.inOnPart (c : Channel) : Bool :=
  c.admitted &&
    match c.periodTimer with
    | some t => t.pos < c.onTime
    | none => false

/-- Whether a channel's output conducts now (R70): a lamp, heater or fan in the on-part of its period, a
bridge while its sequencer is in DRIVE; nothing without power (R159). -/
def State.conducts (s : State) (ch : Ch) : Bool :=
  s.powered &&
    match bridgeOf ch with
    | some br => (s.bridge br).st = .drive
    | none => (s.chan ch).inOnPart

/-- Whether a sample taken now ends an interval in which the output conducted (R70): at a moment of the
last millisecond, or at its end (log 36). -/
def State.sampleConducted (s : State) (ch : Ch) : Bool := (s.chan ch).conducted || s.conducts ch

/-- Whether a bridge's low sides are closed at rest (R125): IDLE at BRAKE, and the rest timer has
reached DEADT. -/
def State.lowSidesClosed (s : State) (br : Bridge) : Bool :=
  (s.bridge br).st = .idle && (s.bridgeProfile br).idle = .brake && (s.bridge br).rest = none

/-- The two legs of a bridge (R115, R125); all off without power (R159). -/
def State.legs (s : State) (br : Bridge) : Leg × Leg :=
  if !s.powered then (.off, .off)
  else match (s.bridge br).st with
    | .idle => if s.lowSidesClosed br then (.low, .low) else (.off, .off)
    | .dead _ => (.off, .off)
    | .drive => match (s.bridge br).dir with
      | .forward => (.high, .low)
      | .reverse => (.low, .high)
    | .brake => (.low, .low)

/-- Whether any switch of a bridge is on (R125). -/
def State.anySwitchOn (s : State) (br : Bridge) : Bool :=
  match (s.bridge br).st with
  | .idle => s.lowSidesClosed br
  | .dead _ => false
  | .drive => true
  | .brake => true

/-- The rest timer after every leg has been switched off (R125): it restarts from 0 if any switch
was on, and goes on otherwise. -/
def State.restAfterLegsOff (s : State) (br : Bridge) : Option Nat :=
  if s.anySwitchOn br then some 0 else (s.bridge br).rest

/-! ### Output drive (R95, R97) -/

/-- The applied duty latched from a pending duty `p` (R97). -/
def appliedDuty (t : ChannelType) (vt vavg p : Nat) : Nat :=
  if t = .lamp ∧ 0 < vt ∧ vt < vavg then p * vt * vt / (vavg * vavg) else p

/-- The on-time derived from an applied duty (R95). -/
def onTimeOf (tmin period duty : Nat) : Nat :=
  if duty = 1000 then period
  else if duty = 0 then 0
  else
    let first := period * duty / 1000
    let raised := if first < tmin then tmin else first
    if period - raised < tmin then period - tmin else raised

/-! ### The heat value (R73) -/

/-- Q after a sample of RMS current `i` with time-constant shift `tau` (R73): the step is the floor
of (T − Q) / 2^tau. -/
def heatUpdate (tau i q : Nat) : Nat :=
  ((q : Int) + ((i * i * 256 : Nat) - (q : Int)) / (2 ^ tau : Nat)).toNat

end Sys2Proof.Machine
end

