-- ==== Sys2Proof/Machine/Frames.lean ====
section
/-!
DEFINITION. The report frames (chapter 9): their identifiers and their bytes, built from the state.
-/
namespace Sys2Proof.Machine

/-- The identifier of a report (R141). -/
def reportId (zone : Fin 4) (offset : Nat) : BitVec 11 :=
  BitVec.ofNat 11 (0x500 + 0x10 * zone.val + offset)

/-- The offset of a report's identifier: 0 SUMMARY, 1 to 8 CHANNEL STATUS, 9 EVENT, 10 REPLY,
11 DETAIL (R141). -/
def TxFrame.offset (t : TxFrame) : Nat := t.id.toNat % 16

/-- Whether a frame is a SUMMARY whose events-lost bit is set (R148). -/
def TxFrame.summaryWithFlag (t : TxFrame) : Bool :=
  t.offset = 0 && match t.data with
    | x :: _ => x.toNat % 2 = 1
    | [] => false

/-- Whether a frame is an EVENT, REPLY or DETAIL frame (R154). -/
def TxFrame.isMessage (t : TxFrame) : Bool := 9 ≤ t.offset && t.offset ≤ 11

/-! ### Events (R151) -/

/-- The event frames, with the values their rules name. -/
inductive Event where
  | trip (ch : Ch) (cause : TripCause) (tripFrom : TripFrom) (rms : Nat) (onCur : Option Nat)
      (count : Nat)
  | lock (ch : Ch) (count retries : Nat)
  | retry (ch : Ch) (entered : ChState) (count q : Nat)
  | openSet (ch : Ch) (onCur openThr : Nat)
  | openClear (ch : Ch) (onCur openThr : Nat)
  | shed (ch : Ch) (feed : Feed) (cause : ShedCause) (cls place vavg current : Nat)
  | restore (feed : Feed) (restored admitted : Nat)
  | feedState (feed : Feed) (former new : FeedState) (voltage vavg number : Nat)
  | expire (ch : Ch) (client : Client)
  | flashDone (ch : Ch) (client : Client) (group : Group) (count : Nat)
  | driveEnd (ch : Ch) (cause : DriveCause) (client : Client) (dir : Direction) (driven : Nat)
      (last : Option Nat)
  | admitDelay (ch : Ch) (feed : Feed) (cls position level headroom : Nat)
  | clientLost (client : Client) (lastPort : Option Port) (removed held : Nat)
  | clientBack (client : Client) (port : Port) (held : Nat)
  | holdEnd (feed : Feed) (holder : Client) (level : Nat) (cause : HoldCause)
      (sender : Option Client)
  | resetDone (port : Port) (zone : Fin 4)
deriving DecidableEq, Repr

/-- A current field of two bytes; "none" is sent as 0xFFFF (R151). -/
def currentField : Option Nat → List Byte
  | some n => half n
  | none => half 0xFFFF

/-- A port's code; a client that has no last port is never LOST (R26). -/
def lastPortCode : Option Port → Nat
  | some p => p.code
  | none => 0

/-- The eight bytes of an event frame (R151): kind, subject, six bytes of detail. DRIVE_END carries a
driven time of at most 1000 (R126), also of a drive that its owner has renewed (log 31). -/
def Event.bytes : Event → List Byte
  | .trip ch cause from' rms onCur count =>
    [byte 1, byte ch.val, byte (16 * cause.code + from'.code)] ++ half rms ++ currentField onCur
      ++ [byte count]
  | .lock ch count retries => [byte 2, byte ch.val, byte count, byte retries, 0, 0, 0, 0]
  | .retry ch entered count q =>
    [byte 3, byte ch.val, byte entered.code, byte count] ++ half (q / 65536) ++ [0, 0]
  | .openSet ch onCur thr => [byte 4, byte ch.val] ++ half onCur ++ [byte thr, 0, 0, 0]
  | .openClear ch onCur thr => [byte 5, byte ch.val] ++ half onCur ++ [byte thr, 0, 0, 0]
  | .shed ch feed cause cls place vavg current =>
    [byte 6, byte ch.val, byte (16 * feed.code + cause.code), byte cls, byte place,
      byte (vavg / 2)] ++ half current
  | .restore feed restored admitted =>
    [byte 7, byte feed.code, byte restored, byte admitted, 0, 0, 0, 0]
  | .feedState feed former new voltage vavg number =>
    [byte 8, byte feed.code, byte former.code, byte new.code] ++ half voltage
      ++ [byte (vavg / 2), byte number]
  | .expire ch client => [byte 9, byte ch.val, byte client.number, 0, 0, 0, 0, 0]
  | .flashDone ch client group count =>
    [byte 10, byte ch.val, byte client.number, byte group.code, byte count, 0, 0, 0]
  | .driveEnd ch cause client dir driven last =>
    [byte 11, byte ch.val, byte cause.code, byte client.number, byte dir.code]
      ++ half (min 1000 (driven / 10)) ++ [byte (last.getD 0 / 10)]
  | .admitDelay ch feed cls position level headroom =>
    [byte 12, byte ch.val, byte feed.code, byte cls, byte position, byte level, byte headroom, 0]
  | .clientLost client lastPort removed held =>
    [byte 13, byte client.number, byte (lastPortCode lastPort), byte removed, byte held, 0, 0, 0]
  | .clientBack client port held =>
    [byte 14, byte client.number, byte port.code, byte held, 0, 0, 0, 0]
  | .holdEnd feed holder level cause sender =>
    [byte 15, byte feed.code, byte holder.number, byte level, byte cause.code,
      byte (match sender with
        | some cl => cl.number
        | none => 0xFF), 0, 0]
  | .resetDone port zone => [byte 16, 0, byte port.code, byte zone.val, 0, 0, 0, 0]

/-- An event as a frame of the part's zone. -/
def State.eventFrame (s : State) (e : Event) : TxFrame :=
  { id := reportId s.zone 9, data := e.bytes }

/-- The REPLY to a refused request (R144): byte 0 and byte 1 of the request as received. -/
def State.replyFrame (s : State) (kind : Byte) (cl : Client) (code : RefusalCode) (byte1 : Byte) :
    TxFrame :=
  { id := reportId s.zone 10, data := [kind, byte cl.number, byte code.code, byte1] }

/-! ### SUMMARY and CHANNEL STATUS (09, section 9.9) -/

/-- A feed's status byte of SUMMARY (R67, R139). The overload flag compares the latest sample's current with
the CONT that stands when the frame is built, also after a FEED_CFG (R137, log 33). -/
def State.feedStatusByte (s : State) (f : Feed) : Byte :=
  byte ((s.monitor f).st.code + 4 * (s.unit f).holdLevel
    + flagBit ((s.unit f).cont < (s.monitor f).current) 16
    + flagBit (s.unit f).overBudget 32)

/-- The SUMMARY a port builds (R148, R149). -/
def State.summaryFrame (s : State) (p : Port) : TxFrame :=
  { id := reportId s.zone 0
    data := [
      byte (flagBit (s.port p).lost 1
        + flagBit (allChannels.any fun ch => (s.chan ch).default) 2
        + flagBit (s.level .key) 4 + flagBit (s.level .brake) 8
        + flagBit (s.level .hazard) 16 + flagBit (s.level .reverse) 32),
      s.feedStatusByte .a, byte ((s.monitor .a).vavg / 2), byte (s.unit .a).headroom,
      s.feedStatusByte .b, byte ((s.monitor .b).vavg / 2), byte (s.unit .b).headroom,
      byte ((s.client .body).st.code + 4 * (s.client .engine).st.code
        + 16 * (s.client .climate).st.code + 64 * (s.client .service).st.code)] }

/-- The four bytes of a channel in its CHANNEL STATUS frame. -/
def State.channelBytes (s : State) (ch : Ch) : List Byte :=
  let c := s.chan ch
  [byte (c.st.code + flagBit c.openFlag 16 + flagBit c.inhibited 32
      + flagBit (s.heldFlag ch) 64 + flagBit c.default 128),
    byte (c.applied / 4),
    byte (min 255 (c.lastRms / 10)),
    byte (c.tripCount + 16 * match bridgeOf ch with
      | some br => (s.bridge br).code
      | none => 0)]

/-- The CHANNEL STATUS frame at an offset 1 to 8, with its two channels (R149). -/
def State.statusFrame (s : State) (offset : Nat) (first second : Ch) : TxFrame :=
  { id := reportId s.zone offset, data := s.channelBytes first ++ s.channelBytes second }

/-- The eight CHANNEL STATUS frames in the order of a status round (R149). -/
def statusLayout : List (Nat × Ch × Ch) :=
  [(1, 0, 1), (2, 2, 3), (3, 4, 5), (4, 6, 7), (5, 8, 9), (6, 10, 11), (7, 12, 13), (8, 14, 15)]

/-! ### DETAIL (R153) -/

/-- The three DETAIL frames of a channel. -/
def State.detailFrames (s : State) (ch : Ch) : List TxFrame :=
  let c := s.chan ch
  let p := c.profile
  let t := c.trip
  let frame (part : Nat) (bytes : List Byte) : TxFrame :=
    { id := reportId s.zone 11, data := [byte ch.val, byte part] ++ bytes }
  [frame 0 (half p.rated ++ half p.short ++ half p.ishort),
    frame 1 (half p.iclaim ++ half p.rclaim ++ [byte (16 * p.cls + p.tau), byte p.retries]),
    frame 2 ([byte (64 * t.cause.code + 16 * t.tripFrom.code + t.count), byte (t.rms / 10)]
      ++ half (t.q / 65536) ++ [byte (t.vavg / 2), byte (t.pending / 4)])]

end Sys2Proof.Machine
end

