-- ==== Sys2Proof/Machine/Ports.lean ====
section
/-!
DEFINITION. What a link port does with the frames offered to it (chapter 9): offers, status rounds,
pending reads, bus-off and recovery.
-/
namespace Sys2Proof.Machine

/-- The slots of a transmit queue (R146). -/
def queueSlots : Nat := 12

/-- The free slots of a port's queue (R146). -/
def PortRecord.free (r : PortRecord) : Nat := queueSlots - r.queue.length

/-- Offer an event frame or a REPLY to a port (R147): it enters if the port is ACTIVE and a slot is
free, and is dropped with the events-lost flag set otherwise. -/
def PortRecord.offer (r : PortRecord) (t : TxFrame) : PortRecord :=
  if r.st = .active ∧ r.queue.length < queueSlots then { r with queue := r.queue ++ [t] }
  else { r with lost := true }

/-- Offer a status frame to a port (R149): it enters if the port is ACTIVE and a slot is free, and is
dropped without a flag otherwise. -/
def PortRecord.offerStatus (r : PortRecord) (t : TxFrame) : PortRecord :=
  if r.st = .active ∧ r.queue.length < queueSlots then { r with queue := r.queue ++ [t] } else r

/-- Offer an event to both ports, each judging it on its own (R147). -/
def State.offerEvent (s : State) (e : Event) : State :=
  let t := s.eventFrame e
  (s.setPort .a ((s.port .a).offer t)).setPort .b ((s.port .b).offer t)

/-- Offer the REPLY of a refused request to the port it came in on (R144, R147). -/
def State.offerReply (s : State) (p : Port) (kind : Byte) (cl : Client) (code : RefusalCode)
    (byte1 : Byte) : State :=
  s.setPort p ((s.port p).offer (s.replyFrame kind cl code byte1))

/-- Offer the SUMMARY; the events-lost flag is cleared when a SUMMARY that carries it enters
(R148). -/
def State.offerSummary (s : State) (p : Port) : State :=
  let r := s.port p
  if r.st = .active ∧ r.queue.length < queueSlots then
    s.setPort p { r with queue := r.queue ++ [s.summaryFrame p], lost := false }
  else s

/-- A status round (R149): the SUMMARY, then CHANNEL STATUS 1 to 8, each entering if a slot is free
at its moment. -/
def State.statusRound (s : State) (p : Port) : State :=
  statusLayout.foldl
    (fun s x => s.setPort p ((s.port p).offerStatus (s.statusFrame x.1 x.2.1 x.2.2)))
    (s.offerSummary p)

/-- Start a port's status timer from 0 and make a status round at once (R155, R157, R163). -/
def State.restartStatus (s : State) (p : Port) : State :=
  (s.setPort p { s.port p with statusTimer := some 0 }).statusRound p

/-- Check a port's pending read (R153): with the port ACTIVE and at least three slots free, the three
DETAIL frames are built, enter together and end the read. -/
def State.checkRead (s : State) (p : Port) : State :=
  let r := s.port p
  match r.read with
  | none => s
  | some ch =>
    if r.st = .active ∧ 3 ≤ r.free then
      s.setPort p { r with queue := r.queue ++ s.detailFrames ch, read := none }
    else s

/-- The events-lost flag after a queue is emptied at a bus-off (R148, R154). -/
def PortRecord.lostAtBusOff (r : PortRecord) : Bool :=
  r.lost || r.queue.any fun t => t.isMessage || t.summaryWithFlag

/-- The events-lost flag after a queue is emptied at a soft reset (R148, R156). -/
def PortRecord.lostAtSoftReset (r : PortRecord) : Bool :=
  r.lost || r.queue.any TxFrame.summaryWithFlag

/-- A port goes BUS_OFF (R154). -/
def PortRecord.goBusOff (r : PortRecord) : PortRecord :=
  { r with st := .busOff, queue := [], lost := r.lostAtBusOff, read := none, statusTimer := none
           recovery := some 0, txErrors := 0, rxErrors := 0 }

/-- The head frame of a port's queue departs (R146): the transmit error count falls by 1, down to 0
(R154), and the port checks its pending read (R153). -/
def State.departure (s : State) (p : Port) : State :=
  let r := s.port p
  match r.queue with
  | [] => s
  | _ :: rest =>
    if r.st = .active then
      (s.setPort p { r with queue := rest, txErrors := r.txErrors - 1 }).checkRead p
    else s

/-- An error in a frame the port transmits (R154): the count rises by 8, and past 255 the port goes
BUS_OFF; the frame keeps its slot (R146). -/
def State.transmitError (s : State) (p : Port) : State :=
  let r := s.port p
  if r.st = .active ∧ r.queue ≠ [] then
    let r' := { r with txErrors := r.txErrors + 8 }
    s.setPort p (if 255 < r'.txErrors then r'.goBusOff else r')
  else s

/-- A BUS_OFF port returns to ACTIVE (R155): recovery stopped and, while the part is ACTIVE, the
status timer from 0 and a round at once. In SLEEP it makes no round until the wake. -/
def State.recoverPort (s : State) (p : Port) : State :=
  let s' := s.setPort p { s.port p with st := .active, recovery := none }
  match s.part with
  | .active => s'.restartStatus p
  | .sleep => s'

/-- Activity on the bus of a BUS_OFF port sets its recovery timer back to 0 (R155). -/
def State.seeActivity (s : State) (p : Port) : State :=
  let r := s.port p
  if r.st = .busOff then s.setPort p { r with recovery := r.recovery.map fun _ => 0 } else s

/-- A soft reset of a port (R156): queue emptied, pending read ended; the rest is kept. A frame that is
being offered to the bus goes with the queue: of "completed or abandoned by the link layer" the model
takes abandoned (log 34). -/
def PortRecord.softReset (r : PortRecord) : PortRecord :=
  { r with queue := [], read := none, lost := r.lostAtSoftReset }

end Sys2Proof.Machine
end

