-- ==== Sys2Proof/Machine/Admission.lean ====
section
/-!
DEFINITION. The admission units and what admission does to a channel (chapter 3; R14 to R16, R90,
R91, R94, R100, R118): claims, queue, examination, entry to and exit from RAMPING and ON.
-/
namespace Sys2Proof.Machine

/-! ### Entry to RAMPING (R15) -/

/-- The latch of a period start (R90): the applied duty from the pending duty and the feed's Vavg
(R97), the on-time from the applied duty and PERIOD (R95). -/
def Channel.latch (t : ChannelType) (vavg : Nat) (c : Channel) : Channel :=
  let a := appliedDuty t c.profile.vt vavg c.pending
  { c with applied := a, onTime := onTimeOf t.tmin (c.profile.period.getD 0) a }

/-- The channel's part of an admission (R15): inrush window, order stamp, good-run timer left
stopped; a PWM channel starts a fresh period with the latch made at once (R91), a bridge's applied
duty is set to its pending duty (R100). -/
def Channel.enterRamping (t : ChannelType) (vavg number : Nat) (c : Channel) : Channel :=
  let c' := { c with st := .ramping, window := some c.profile.window, stamp := some number
                     goodRun := none }
  if t = .bridge then { c' with applied := c.pending }
  else { c'.latch t vavg with periodTimer := some { pos := 0, starts := 0 } }

/-- The sequencer's part of an admission (R118): DEAD before drive for DEADT, with every leg off. -/
def State.startBridge (s : State) (br : Bridge) : State :=
  s.setBridge br { s.bridge br with
    st := .dead .beforeDrive
    stageTimer := some (s.bridgeProfile br).deadt
    rest := s.restAfterLegsOff br }

/-- A channel enters RAMPING with its admission number (R15). -/
def State.enterRamping (s : State) (ch : Ch) (number : Nat) : State :=
  let c := s.chan ch
  let s' := s.setChan ch (c.enterRamping (typeOf ch) (s.monitor (feedOf ch)).vavg number)
  match bridgeOf ch with
  | some br => s'.startBridge br
  | none => s'

/-! ### Admission numbers (R61) -/

/-- The largest admission number. -/
def maxAdmission : Nat := 4294967295

/-- The admitted channels of a feed, ascending. -/
def State.admittedOf (s : State) (f : Feed) : List Ch :=
  (channelsOf f).filter fun ch => (s.chan ch).admitted

/-- The stamp of a channel as a number; none counts lowest. -/
def Channel.stampNumber (c : Channel) : Nat := c.stamp.getD 0

/-- The stamp a channel is given by the renumbering (R61): its place, from 1, among the feed's
admitted channels in ascending order of their old stamps. -/
def State.renumbered (s : State) (f : Feed) (ch : Ch) : Nat :=
  1 + ((s.admittedOf f).filter fun x =>
    (s.chan x).stampNumber < (s.chan ch).stampNumber).length

/-- The renumbering before the counter would rise past its end (R61). Where no channel of the feed is
RAMPING or ON no number is given, and the counter goes on from 0 (log 37). -/
def State.renumber (s : State) (f : Feed) : State :=
  let s' := s.overChannels (fun ch t => t.setChan ch { t.chan ch with stamp := some (s.renumbered f ch) })
    (s.admittedOf f)
  s'.setUnit f { s'.unit f with counter := (s.admittedOf f).length }

/-- The admission counter rises by 1, after a renumbering if it stands at its end (R61). -/
def State.countAdmission (s : State) (f : Feed) : State :=
  let s' := if (s.unit f).counter < maxAdmission then s else s.renumber f
  s'.setUnit f { s'.unit f with counter := (s'.unit f).counter + 1 }

/-! ### Claims (R53) -/

/-- Add a channel's claims to its feed's sums. -/
def State.addClaims (s : State) (ch : Ch) : State :=
  let f := feedOf ch
  let p := (s.chan ch).profile
  s.setUnit f { s.unit f with sumS := (s.unit f).sumS + p.iclaim, sumR := (s.unit f).sumR + p.rclaim }

/-- Take an admitted channel's claims from its feed's sums. -/
def State.releaseClaims (s : State) (ch : Ch) : State :=
  let f := feedOf ch
  let c := s.chan ch
  s.setUnit f { s.unit f with sumS := (s.unit f).sumS - c.presentClaim
                              sumR := (s.unit f).sumR - c.profile.rclaim }

/-- An admission (R59 steps 2 to 4, R62): claims added, number given, RAMPING entered. -/
def State.admitChannel (s : State) (ch : Ch) : State :=
  let s' := (s.addClaims ch).countAdmission (feedOf ch)
  s'.enterRamping ch (s'.unit (feedOf ch)).counter

/-! ### The queue (R54 to R56) -/

/-- Place an entry directly behind the last entry whose class is equal to or lower than its own, or
at the front if there is none (R54). -/
def insertBehind (e : QueueEntry) : List QueueEntry → List QueueEntry
  | [] => [e]
  | x :: xs =>
    if (x :: xs).any fun y => y.cls ≤ e.cls then x :: insertBehind e xs else e :: x :: xs

/-- A channel enters WAITING and its feed's queue in the same change, with its ADMIT_DELAY timer from
0 (R54, R66). -/
def State.place (s : State) (ch : Ch) : State :=
  let f := feedOf ch
  let e : QueueEntry := { ch := ch, cls := (s.chan ch).profile.cls, delay := some 0 }
  let s' := s.setChan ch { s.chan ch with st := .waiting }
  s'.setUnit f { s'.unit f with queue := insertBehind e (s'.unit f).queue }

/-- Remove a channel from its feed's queue; the entries behind it close up (R56). -/
def State.dequeue (s : State) (ch : Ch) : State :=
  let f := feedOf ch
  s.setUnit f { s.unit f with queue := (s.unit f).queue.filter fun e => e.ch ≠ ch }

/-! ### Examination (R58, R59) -/

/-- Whether the head of a queue is admitted (R59): its class below L, S plus ICLAIM within PEAK, R
plus RCLAIM within CONT. -/
def State.fits (s : State) (f : Feed) (e : QueueEntry) : Bool :=
  let u := s.unit f
  let p := (s.chan e.ch).profile
  e.cls < s.blockLevel f && u.sumS + p.iclaim ≤ u.peak && u.sumR + p.rclaim ≤ u.cont

/-- Judge heads until one is blocked or does not fit, at most `n` of them. -/
def State.examineHeads (f : Feed) : Nat → State → State
  | 0, s => s
  | n + 1, s =>
    match (s.unit f).queue with
    | [] => s
    | e :: rest =>
      if s.fits f e then
        State.examineHeads f n ((s.setUnit f { s.unit f with queue := rest }).admitChannel e.ch)
      else s

/-- An examination of a feed's queue (R59). -/
def State.examine (s : State) (f : Feed) : State :=
  State.examineHeads f (s.unit f).queue.length s

/-! ### Leaving WAITING, RAMPING and ON (R11, R16, R53, R56, R85, R94) -/

/-- The channel record as it leaves RAMPING or ON: output off, period abandoned, timers stopped,
open-load counters at 0, pending duty kept (R16, R85, R94, R100). -/
def Channel.leaveAdmitted (c : Channel) (dest : ChState) : Channel :=
  { c with st := dest, window := none, goodRun := none, lowCount := 0, goodCount := 0, applied := 0
           onTime := 0, periodTimer := none }

/-- A channel takes a new state outside WAITING, RAMPING and ON: from WAITING it leaves the queue,
from RAMPING or ON its claims are released in the same change (R11, R56). No examination. -/
def State.leaveTo (s : State) (ch : Ch) (dest : ChState) : State :=
  let c := s.chan ch
  match c.st with
  | .waiting => (s.dequeue ch).setChan ch { c with st := dest }
  | .ramping => (s.releaseClaims ch).setChan ch (c.leaveAdmitted dest)
  | .on => (s.releaseClaims ch).setChan ch (c.leaveAdmitted dest)
  | _ => s.setChan ch { c with st := dest }

/-- Whether leaving the channel's present state triggers an examination (R58): it stands in the queue
or holds a claim. -/
def Channel.leaveExamines (c : Channel) : Bool := c.st = .waiting || c.admitted

/-! ### A wish that begins or ends (R14, R16, R19) -/

/-- The state a channel takes when its wish begins in OFF or when it has cooled with its wish true:
the first row of R14's table that applies. -/
def startState (fs : FeedState) (cls : Nat) : ChState :=
  if fs = .cut then .suspended
  else if fs = .surge ∧ 2 ≤ cls then .suspended
  else if cls = 0 then .ramping
  else .waiting

/-- The state R14's table gives a channel now. -/
def State.startStateOf (s : State) (ch : Ch) : ChState :=
  startState (s.monitor (feedOf ch)).st (s.chan ch).profile.cls

/-- A channel takes the state of R14's table: suspended, admitted by the class 0 bypass (R62), or
placed in the queue, which is then examined (R54). -/
def State.start (s : State) (ch : Ch) : State :=
  match s.startStateOf ch with
  | .ramping => s.admitChannel ch
  | .waiting => (s.place ch).examine (feedOf ch)
  | _ => s.setChan ch { s.chan ch with st := .suspended }

/-- A wish that begins (R13, R14): it acts in OFF, and is only recorded in every other state. -/
def State.wishBegins (s : State) (ch : Ch) : State :=
  if (s.chan ch).st = .off then s.start ch else s

/-- A wish that ends (R13, R16): TRIPPED and LOCKED record it; from WAITING, RAMPING, ON, SHED and
SUSPENDED the channel goes OFF. `examined` says whether the examination that a release or a removal
triggers is made here (R58) or belongs to a later step of the same change (R56). -/
def State.wishEnds (s : State) (examined : Bool) (ch : Ch) : State :=
  match (s.chan ch).st with
  | .off => s
  | .tripped => s
  | .locked => s
  | _ =>
    let s' := s.leaveTo ch .off
    if examined && (s.chan ch).leaveExamines then s'.examine (feedOf ch) else s'

/-! ### The hand-over of the combined demand (R12, R43) -/

/-- The channel records the values handed over, the pending duty first: on a bridge that is RAMPING
or ON the applied duty follows at once (R100). -/
def Channel.record (t : ChannelType) (d : Combined) (c : Channel) : Channel :=
  { c with pending := d.duty, inhibited := d.inhibited, wish := d.wants
           applied := if t = .bridge && c.admitted then d.duty else c.applied }

/-- Recompute a channel's combined demand and hand it over if a value has changed (R43); a changed
wish acts (R12). -/
def State.recompute (s : State) (examined : Bool) (ch : Ch) : State :=
  let d := s.combined ch
  let c := s.chan ch
  if d.duty = c.pending ∧ d.wants = c.wish ∧ d.inhibited = c.inhibited then s
  else
    let s' := s.setChan ch (c.record (typeOf ch) d)
    if d.wants = c.wish then s'
    else if d.wants then s'.wishBegins ch
    else s'.wishEnds examined ch

/-- Recompute with the examinations that follow (the usual case). -/
def State.recomputed (s : State) (ch : Ch) : State := s.recompute true ch

/-- Place a batch (R55): ascending class and, within a class, ascending channel number; then one
examination. -/
def State.placeBatch (s : State) (f : Feed) (batch : List Ch) : State :=
  let ordered := [1, 2, 3].flatMap fun k => batch.filter fun ch => (s.chan ch).profile.cls = k
  (s.overChannels (fun ch t => t.place ch) ordered).examine f

end Sys2Proof.Machine
end

