-- ==== Sys2Proof/Machine/Bridges.lean ====
section
/-!
DEFINITION. The bridge sequencers (chapter 7): entering DRIVE, the ends of a drive, a new drive from
the owner, and the ends that drop the legs at once.
-/
namespace Sys2Proof.Machine

/-! ### The owner's entry (R117) -/

/-- The owner's DRIVE entry on a bridge, as it stands: its client, direction and duration. -/
def State.ownerEntry (s : State) (br : Bridge) : Option (Client × Direction × Nat) :=
  match (s.bridge br).owner with
  | none => none
  | some cl =>
    match s.slot (bridgeChannel br) cl with
    | some (.drive dir duration _) => some (cl, dir, duration)
    | _ => none

/-- Remove the owner's DRIVE entry and clear the owner in one change (R117); the combined demand is
recomputed, which ends the channel's wish (R121). -/
def State.removeDrive (s : State) (examined : Bool) (br : Bridge) : State :=
  let ch := bridgeChannel br
  match (s.bridge br).owner with
  | none => s
  | some cl =>
    let s1 := s.setSlot ch cl none
    let s2 := s1.setBridge br { s1.bridge br with owner := none }
    s2.recompute examined ch

/-- Set the ending mark of the owner's DRIVE entry (R121 step 1). -/
def State.markEnding (s : State) (br : Bridge) : State :=
  match s.ownerEntry br with
  | some (cl, dir, duration) =>
    s.setSlot (bridgeChannel br) cl (some (.drive dir duration true))
  | none => s

/-! ### DRIVE_END (R126) -/

/-- Whether the drive that ends never reached its DRIVE stage: the bridge is IDLE or in DEAD before
drive (R126). -/
def BridgeRecord.neverDriven (r : BridgeRecord) : Bool :=
  r.st = .idle || r.st = .dead .beforeDrive

/-- Offer a DRIVE_END (R126). A drive that ended before its DRIVE stage began reports a driven time
and a current of 0 and the direction of the entry removed; otherwise the sequencer's own figures
are reported. Without an owner there is no drive to end. -/
def State.offerDriveEnd (s : State) (br : Bridge) (cause : DriveCause) (undriven : Bool) : State :=
  let r := s.bridge br
  match s.ownerEntry br with
  | none => s
  | some (cl, dir, _) =>
    let ch := bridgeChannel br
    s.offerEvent (if undriven then .driveEnd ch cause cl dir 0 none
      else .driveEnd ch cause cl r.dir r.driven r.lastDrive)

/-! ### Entering DRIVE (R118) -/

/-- The drive timer's start for a duration in 10 ms units; 0 is open-ended (R118 step 3). -/
def driveStart (duration : Nat) : Nat := if duration = 0 then 10000 else 10 * duration

/-- Enter DRIVE from a DEAD stage whose timer has run out (R118 steps 1 to 3). Every leg has been off
for DEADT, so the rest timer has reached it (R125). -/
def BridgeRecord.enterDrive (r : BridgeRecord) (dir : Direction) (duration : Nat) : BridgeRecord :=
  { r with st := .drive, dir := dir, stageTimer := none, driveTimer := some (driveStart duration)
           openEnded := duration = 0, stall := 0, driven := 0, lastDrive := none, redrive := false
           rest := none }

/-! ### The ends of a drive (R121) -/

/-- An end from the DRIVE stage (R121): cause recorded, entry marked, drive timer stopped, DRIVE_END
offered, DEAD before brake entered with every leg off. The open-ended mark is left as it was: no rule
clears it at an end (R116, log 32). -/
def State.endDrive (s : State) (br : Bridge) (cause : DriveCause) : State :=
  let s1 := (s.markEnding br).offerDriveEnd br cause false
  s1.setBridge br { s1.bridge br with
    st := .dead .beforeBrake
    stageTimer := some (s1.bridgeProfile br).deadt
    driveTimer := none
    redrive := false
    ending := some cause
    rest := s1.restAfterLegsOff br }

/-- The bridge reaches IDLE and the drive is over (R121 step 5): ending cause none, entry removed,
owner cleared. -/
def State.finishDrive (s : State) (br : Bridge) : State :=
  (s.setBridge br { s.bridge br with
    st := .idle, stageTimer := none, driveTimer := none, redrive := false, ending := none }).removeDrive
      true br

/-- An end handed over with cause RELEASED or LOST (R39, R121), acting by the channel's state and the
stage the bridge is in. -/
def State.handedEnd (s : State) (br : Bridge) (cause : DriveCause) : State :=
  let r := s.bridge br
  if (s.chan (bridgeChannel br)).admitted then
    match r.st with
    | .drive => s.endDrive br cause
    | .idle => ((s.offerDriveEnd br cause true)).finishDrive br
    | .dead .beforeDrive => (s.offerDriveEnd br cause true).finishDrive br
    | _ =>
      let s1 := s.offerDriveEnd br cause r.redrive
      s1.setBridge br { s1.bridge br with redrive := false, ending := some cause }
  else (s.offerDriveEnd br cause true).finishDrive br

/-- The demand table hands a DRIVE entry's end to the sequencer, with its ending mark set; when the
mark is already set the end is not handed on (R39). -/
def State.endEntry (s : State) (ch : Ch) (cl : Client) (cause : DriveCause) : State :=
  match s.slot ch cl, bridgeOf ch with
  | some (.drive dir duration false), some br =>
    (s.setSlot ch cl (some (.drive dir duration true))).handedEnd br cause
  | _, _ => s

/-! ### A new drive from the owner (R122) -/

/-- A DRIVE entry handed to the sequencer (R39, R122): nothing before the DRIVE stage, a prolonged or
reversed drive in it, a re-drive that waits during the ending stages. -/
def State.driveTaken (s : State) (br : Bridge) (dir : Direction) (duration : Nat) : State :=
  let r := s.bridge br
  match r.st with
  | .idle => s
  | .dead .beforeDrive => s
  | .drive =>
    if dir = r.dir then
      s.setBridge br { r with driveTimer := some (driveStart duration), openEnded := duration = 0 }
    else
      s.setBridge br { r with
        st := .dead .beforeBrake, stageTimer := some (s.bridgeProfile br).deadt
        driveTimer := none, redrive := true, rest := s.restAfterLegsOff br }
  | _ => s.setBridge br { r with redrive := true, ending := none }

/-! ### Ends that drop the legs at once (R123, R124) -/

/-- Every leg off, IDLE, timers stopped, re-drive mark and ending cause cleared (R123 steps 1 to 3). The
open-ended mark is left as it was (R116, log 32). -/
def State.dropLegs (s : State) (br : Bridge) : State :=
  s.setBridge br { s.bridge br with
    st := .idle, stageTimer := none, driveTimer := none, redrive := false, ending := none
    rest := s.restAfterLegsOff br }

/-- A trip or a supply end (R123 steps 1 to 5, R124): DRIVE_END offered with the figures of the drive
that ended, legs dropped, entry removed, owner cleared. -/
def State.dropDrive (s : State) (examined : Bool) (br : Bridge) (cause : DriveCause) : State :=
  (((s.offerDriveEnd br cause (s.bridge br).neverDriven)).dropLegs br).removeDrive examined br

/-! ### The stall check (R120) -/

/-- The stall counter after a sample taken in DRIVE (R120). -/
def stallCount (stall : Nat) (chSt : ChState) (onCur : Option Nat) (count : Nat) : Nat :=
  if stall = 0 then 0
  else if chSt ≠ .on then count
  else match onCur with
    | none => 0
    | some o => if stall ≤ o then count + 1 else 0

/-- Store a sample's on-current as the last drive current, if the bridge is in DRIVE (R120). -/
def State.storeDriveCurrent (s : State) (br : Bridge) (onCur : Option Nat) : State :=
  if (s.bridge br).st = .drive then s.setBridge br { s.bridge br with lastDrive := onCur } else s

/-- The stall check on a sample taken in DRIVE that did not trip the channel (R120): the drive ends
with cause STALL when the counter reaches STALLT. -/
def State.stallCheck (s : State) (br : Bridge) (onCur : Option Nat) : State :=
  let r := s.bridge br
  let p := s.bridgeProfile br
  if r.st = .drive then
    let n := stallCount p.stall (s.chan (bridgeChannel br)).st onCur r.stall
    let s1 := s.setBridge br { r with stall := n }
    if p.stall ≠ 0 ∧ r.stall < n ∧ p.stallt ≤ n then s1.endDrive br .stall else s1
  else s

end Sys2Proof.Machine
end

