-- ==== Sys2Proof/Machine/Demands.lean ====
section
/-!
DEFINITION. The demand table, the flash generator, the wired placements and the client table
(chapters 2 and 6): recording and removing entries, starting groups, silence.
-/
namespace Sys2Proof.Machine

/-! ### FLASH entries and their group (R107 to R109) -/

/-- Set the started mark of an entry (R107 step 3, R109 step 4). -/
def Entry.start : Entry → Entry
  | .flash d g n r _ held => .flash d g n r true held
  | e => e

/-- Set the started mark of what a slot holds, if it is a FLASH entry on the group. -/
def State.startSlot (g : Group) (ch : Ch) (cl : Client) (s : State) : State :=
  if s.flashesOn g ch cl then s.setSlot ch cl ((s.slot ch cl).map Entry.start) else s

/-- A cycle starts (R107 steps 1 and 2, R109 steps 2 and 3): fast flag computed, ON_PHASE with its
length. The current configuration has been taken. -/
def State.startCycle (s : State) (g : Group) : State :=
  let r := { s.group g with fast := s.fastFlag g }
  s.setGroup g { r with phase := .onPhase, timer := some r.onLength }

/-- FLASH entries handed to the flash generator in one hand-over, for one group (R107, R108): an IDLE
group starts and those of them that reference it are started; on a running group they are joined. -/
def State.handGroup (news : List (Ch × Client)) (g : Group) (s : State) : State :=
  if (s.group g).phase = .idle ∧ news.any (fun x => s.flashesOn g x.1 x.2) then
    (s.startCycle g).overSlots (State.startSlot g) news
  else s

/-- FLASH entries handed to the flash generator in one hand-over. -/
def State.handFlash (s : State) (news : List (Ch × Client)) : State :=
  ((s.handGroup news .a)).handGroup news .b

/-! ### Recording and removing (R38, R40) -/

/-- Put an entry into a slot, in place of what it held; a FLASH entry is handed to the flash generator
(R38, R107, R108). -/
def State.putEntry (s : State) (ch : Ch) (cl : Client) (e : Entry) : State :=
  (s.setSlot ch cl (some e)).handFlash [(ch, cl)]

/-- Record an entry in a slot; the combined demand is then recomputed (R38). -/
def State.recordEntry (s : State) (ch : Ch) (cl : Client) (e : Entry) : State :=
  (s.putEntry ch cl e).recomputed ch

/-- Empty a slot and recompute its channel (R40). -/
def State.removeEntry (s : State) (ch : Ch) (cl : Client) : State :=
  match s.slot ch cl with
  | none => s
  | some _ => (s.setSlot ch cl none).recomputed ch

/-- A RELEASE of one channel (R40): the sender's entry is removed, or a DRIVE entry's end handed to
the bridge sequencer. -/
def State.releaseEntry (s : State) (cl : Client) (ch : Ch) : State :=
  match s.slot ch cl with
  | some (.drive _ _ _) => s.endEntry ch cl .released
  | _ => s.removeEntry ch cl

/-! ### Wired placements (R46, R47) -/

/-- The WIRED entry a binding asks for (R46). -/
def Profile.wiredEntry (p : Profile) : Entry :=
  match p.bindMode with
  | .steady => .steady p.bindDuty false
  | .flash g => .flash p.bindDuty g 0 0 false false

/-- The channels on which an activation of the input places entries (R46): bound to it with a duty
above 0, ascending. -/
def State.boundChannels (s : State) (i : WiredInput) : List Ch :=
  allChannels.filter fun ch =>
    (s.chan ch).profile.bindInput = some i && 0 < (s.chan ch).profile.bindDuty

/-- The placed sets after an activation of the input on the channels: they are its set, and leave the
sets of the others (R46). -/
def placedAfter (p : PerInput (List Ch)) (i : WiredInput) (chs : List Ch) : PerInput (List Ch) :=
  let others (l : List Ch) := l.filter fun ch => !chs.contains ch
  (PerInput.mk (others p.brake) (others p.hazard) (others p.reverse)).set i chs

/-- The placing of an input's WIRED entries (R46): they replace what the slots held, the input's placed
set becomes their channels, and they are handed to the flash generator together (R107). -/
def State.placeWired (s : State) (i : WiredInput) : State :=
  let chs := s.boundChannels i
  let s1 := s.overChannels (fun ch t => t.setSlot ch .wired (some (t.chan ch).profile.wiredEntry)) chs
  let s2 := { s1 with placed := placedAfter s1.placed i chs }
  s2.handFlash (chs.map fun ch => (ch, .wired))

/-- An activation of a wired input (R46): its entries are placed, and each channel recomputed. -/
def State.activateInput (s : State) (i : WiredInput) : State :=
  (s.placeWired i).overChannels (fun ch t => t.recomputed ch) (s.boundChannels i)

/-- A deactivation of a wired input (R47): the WIRED entries of its placed set are removed, and the
set emptied. -/
def State.deactivateInput (s : State) (i : WiredInput) : State :=
  let chs := s.placed.get i
  let s1 := { s with placed := s.placed.set i [] }
  s1.overChannels (fun ch t => t.removeEntry ch .wired) chs

/-! ### Holds (R65) -/

/-- A hold ends (R65): record emptied, HOLD_END offered, queue examined. -/
def State.endHold (s : State) (f : Feed) (cause : HoldCause) (sender : Option Client) : State :=
  match (s.unit f).hold with
  | none => s
  | some h =>
    ((s.setUnit f { s.unit f with hold := none }).offerEvent
      (.holdEnd f h.holder h.level cause sender)).examine f

/-- End a feed's hold with cause LOST if the client holds it (R28 step 3). -/
def State.loseHold (s : State) (cl : Client) (f : Feed) : State :=
  match (s.unit f).hold with
  | some h => if h.holder = cl then s.endHold f .lost none else s
  | none => s

/-! ### Silence (R28, R29) -/

/-- What the silence expiry of a client does to its entry on a channel (R29). -/
inductive SilenceAct where
  | nothing
  | remove
  | keepHeld (e : Entry)
  | endDrive
deriving DecidableEq, Repr

/-- The act R29's table gives for an entry; every entry of SERVICE is removed, and its DRIVE ended. -/
def silenceAct (cl : Client) (silence : Option Silence) : Option Entry → SilenceAct
  | none => .nothing
  | some (.drive _ _ _) => .endDrive
  | some .inhibit => .remove
  | some (.timed _ _ _) => if cl = .service then .remove else .nothing
  | some (.steady d _) =>
    if cl = .service ∨ silence = some .release then .remove else .keepHeld (.steady d true)
  | some (.flash d g n r started _) =>
    if cl = .service ∨ silence = some .release then .remove
    else .keepHeld (.flash d g n r started true)

/-- The act for the client's entry on a channel, with the channel's SILENCE at that moment. -/
def State.silenceActOn (s : State) (cl : Client) (ch : Ch) : SilenceAct :=
  silenceAct cl (s.chan ch).profile.silence (s.slot ch cl)

/-- Handle a lost client's entry on one channel (R29). -/
def State.silenceEntry (s : State) (cl : Client) (ch : Ch) : State :=
  match s.silenceActOn cl ch with
  | .nothing => s
  | .remove => s.removeEntry ch cl
  | .keepHeld e => s.setSlot ch cl (some e)
  | .endDrive => s.endEntry ch cl .lost

/-- How many of the client's entries the silence expiry removes; a DRIVE entry counts as removed
(R28 step 4, R117). -/
def State.silenceRemoved (s : State) (cl : Client) : Nat :=
  (allChannels.filter fun ch =>
    s.silenceActOn cl ch = .remove || s.silenceActOn cl ch = .endDrive).length

/-- Whether a silence act keeps an entry as held. -/
def SilenceAct.keeps : SilenceAct → Bool
  | .keepHeld _ => true
  | _ => false

/-- How many of the client's entries the silence expiry keeps as held (R28 step 4). -/
def State.silenceKept (s : State) (cl : Client) : Nat :=
  (allChannels.filter fun ch => (s.silenceActOn cl ch).keeps).length

/-- A client's silence expires (R28): LOST, entries handled, holds ended, CLIENT_LOST offered. -/
def State.expireSilence (s : State) (cl : Client) : State :=
  let r := s.client cl
  let s1 := s.setClient cl { r with st := .lost, silence := none }
  let s2 := s1.overChannels (fun ch t => t.silenceEntry cl ch) allChannels
  let s3 := (s2.loseHold cl .a).loseHold cl .b
  s3.offerEvent (.clientLost cl r.lastPort (s.silenceRemoved cl) (s.silenceKept cl))

/-! ### Refresh (R27) -/

/-- The number of held entries a client has (R27). -/
def State.heldCount (s : State) (cl : Client) : Nat :=
  (allChannels.filter fun ch => ((s.slot ch cl).map Entry.isHeld).getD false).length

/-- A client's record after a refresh by a frame on a port (R27). -/
def ClientRecord.refresh (cl : Client) (p : Port) (r : ClientRecord) : ClientRecord :=
  { r with st := .active, silence := some 0
           lastPort := if cl = .service then some p else r.lastPort }

/-- A frame taken from a client refreshes it; a LOST client is brought back with CLIENT_BACK (R27). -/
def State.refresh (s : State) (cl : Client) (p : Port) : State :=
  let r := s.client cl
  let s1 := s.setClient cl (r.refresh cl p)
  if r.st = .lost then s1.offerEvent (.clientBack cl p (s.heldCount cl)) else s1

/-! ### The phases of a group (R109, R111) -/

/-- Whether a slot holds a started entry of the group that counts (R111 step 2). -/
def Entry.counts (g : Group) : Entry → Bool
  | .flash _ g' n _ started _ => g' = g && started && 0 < n
  | _ => false

/-- An entry after one counted flash (R111 step 2). -/
def Entry.countFlash : Entry → Entry
  | .flash d g n r started held => .flash d g n (r - 1) started held
  | e => e

/-- The remaining count of a FLASH entry. -/
def Entry.remainingCount : Entry → Nat
  | .flash _ _ _ r _ _ => r
  | _ => 0

/-- The count a FLASH entry was recorded with. -/
def Entry.recordedCount : Entry → Nat
  | .flash _ _ n _ _ _ => n
  | _ => 0

/-- Count one flash on a slot (R111 steps 2 and 3): an entry whose count reaches 0 is removed and a
FLASH_DONE event offered. The channel is recomputed later in the same change. -/
def State.countSlot (g : Group) (ch : Ch) (cl : Client) (s : State) : State :=
  match s.slot ch cl with
  | none => s
  | some e =>
    if e.counts g then
      let e' := e.countFlash
      if e'.remainingCount = 0 then
        (s.setSlot ch cl none).offerEvent (.flashDone ch cl g e.recordedCount)
      else s.setSlot ch cl (some e')
    else s

/-- An ON_PHASE ends (R111). -/
def State.endOnPhase (s : State) (g : Group) : State :=
  let r := s.group g
  let s1 := s.setGroup g { r with phase := .offPhase, timer := some r.offLength }
  (s1.overSlots (State.countSlot g) allSlots).overChannels (fun ch t => t.recomputed ch)
    (s.flashChannels g)

/-- A group's pending configuration becomes current (R109). -/
def FlashGroup.takePending (r : FlashGroup) : FlashGroup :=
  { r with curPeriod := r.pendPeriod, curOn := r.pendOn }

/-- A group IDLE with its pending configuration current (R109, R114). -/
def FlashGroup.goIdle (r : FlashGroup) : FlashGroup :=
  { r.takePending with phase := .idle, timer := none, fast := false }

/-- An OFF_PHASE ends (R109): IDLE without entries, else a new cycle. -/
def State.endOffPhase (s : State) (g : Group) : State :=
  if s.flashChannels g = [] then s.setGroup g (s.group g).goIdle
  else
    let s1 := (s.setGroup g (s.group g).takePending).startCycle g
    (s1.overSlots (State.startSlot g) allSlots).overChannels (fun ch t => t.recomputed ch)
      (s.flashChannels g)

end Sys2Proof.Machine
end

