-- ==== Sys2Proof/Machine/Protection.lean ====
section
/-!
DEFINITION. Wire protection (chapter 4, R17 to R21): the sense sample, trips, cooling and the
open-load counts.
-/
namespace Sys2Proof.Machine

/-! ### Trips (R18, R77 to R80) -/

/-- The state a trip record gives for the state tripped from. -/
def tripFromOf : ChState → TripFrom
  | .ramping => .ramping
  | .on => .on
  | _ => .none

/-- The trip record of a trip (R79), with Q as R73's update produced it and the count after the
trip's increment. -/
def Channel.tripRecordOf (c : Channel) (cause : TripCause) (rms vavg : Nat) : TripRecord :=
  { cause := cause, rms := rms, q := c.q, vavg := vavg, tripFrom := tripFromOf c.st
    pending := c.pending, count := c.tripCount + 1 }

/-- Q after the raise of a short trip (R77); a thermal trip leaves it (R78). -/
def Channel.qAfterTrip (c : Channel) (cause : TripCause) : Nat :=
  if cause = .short then max c.q (c.ltrip + 256) else c.q

/-- The state a trip leaves the channel in (R18 step 6). -/
def Channel.tripState (c : Channel) : ChState :=
  if c.profile.retries < c.tripCount + 1 then .locked else .tripped

/-- The channel record after a trip (R18 steps 1 and 3 to 6). -/
def Channel.afterTrip (c : Channel) (cause : TripCause) (rms vavg : Nat) : Channel :=
  { c.leaveAdmitted c.tripState with
    q := c.qAfterTrip cause
    tripCount := c.tripCount + 1
    trip := c.tripRecordOf cause rms vavg }

/-- A trip of an admitted channel (R18): the record and the state change with the claim released; TRIP,
then LOCK when it locks, then a bridge's DRIVE_END with cause TRIPPED (R80, R123); then the
examination that the release triggers (R58). -/
def State.trip (s : State) (ch : Ch) (cause : TripCause) (rms : Nat) (onCur : Option Nat) : State :=
  let c := s.chan ch
  let c' := c.afterTrip cause rms (s.monitor (feedOf ch)).vavg
  let s1 := (s.releaseClaims ch).setChan ch c'
  let s2 := s1.offerEvent (.trip ch cause (tripFromOf c.st) rms onCur c'.tripCount)
  let s3 := if c'.st = .locked then s2.offerEvent (.lock ch c'.tripCount c.profile.retries) else s2
  let s4 := match bridgeOf ch with
    | some br => s3.dropDrive true br .tripped
    | none => s3
  s4.examine (feedOf ch)

/-! ### The checks of a sample (R76 to R78) -/

/-- The short threshold for the channel's state (R77). -/
def Channel.shortThreshold (c : Channel) : Nat :=
  if c.st = .ramping then c.profile.ishort else c.profile.short

/-- Whether the short check trips (R77): the on-current is present and at or above the threshold. -/
def Channel.shortTrips (c : Channel) (onCur : Option Nat) : Bool :=
  match onCur with
  | some o => c.shortThreshold ≤ o
  | none => false

/-- Whether the thermal check trips (R78). -/
def Channel.thermalTrips (c : Channel) : Bool := c.ltrip < c.q

/-- The cause a sample trips an admitted channel with, the short check first (R76). -/
def Channel.tripCauseOf (c : Channel) (onCur : Option Nat) : Option TripCause :=
  if c.shortTrips onCur then some .short
  else if c.thermalTrips then some .thermal
  else none

/-! ### Open load (R82 to R85) -/

/-- Whether a sample is counted for open load, and its on-current (R82); the trip checks have been
made. -/
def Channel.countedCurrent (c : Channel) (onCur : Option Nat) : Option Nat :=
  if c.st = .on ∧ 0 < c.profile.openThr then onCur else none

/-- The counters after a counted sample (R83, R84): low below OPEN, good otherwise. -/
def Channel.countOpen (c : Channel) (o : Nat) : Channel :=
  if o < c.profile.openThr then { c with goodCount := 0, lowCount := min 100 (c.lowCount + 1) }
  else { c with lowCount := 0, goodCount := min 100 (c.goodCount + 1) }

/-- A counted sample sets the OPEN flag (R83). -/
def Channel.setsOpen (c : Channel) (o : Nat) : Bool :=
  o < c.profile.openThr && (c.countOpen o).lowCount = 100 && !c.openFlag

/-- A counted sample clears the OPEN flag (R84). -/
def Channel.clearsOpen (c : Channel) (o : Nat) : Bool :=
  !(o < c.profile.openThr) && (c.countOpen o).goodCount = 100 && c.openFlag

/-- The open-load count of a sample that did not trip the channel (R82 to R84). -/
def State.openCheck (s : State) (ch : Ch) (onCur : Option Nat) : State :=
  let c := s.chan ch
  match c.countedCurrent onCur with
  | none => s
  | some o =>
    let c' := c.countOpen o
    if c.setsOpen o then
      (s.setChan ch { c' with openFlag := true }).offerEvent (.openSet ch o c.profile.openThr)
    else if c.clearsOpen o then
      (s.setChan ch { c' with openFlag := false }).offerEvent (.openClear ch o c.profile.openThr)
    else s.setChan ch c'

/-! ### Cooling (R19) -/

/-- The cooling check of a sample in TRIPPED (R19): a cooled channel goes OFF with its wish false, and
otherwise takes the state of R14's table and sends RETRY with the state entered (R80). -/
def State.coolCheck (s : State) (ch : Ch) : State :=
  let c := s.chan ch
  if c.q ≤ c.lrestart then
    if c.wish then
      (s.offerEvent (.retry ch (s.startStateOf ch) c.tripCount c.q)).start ch
    else s.setChan ch { c with st := .off }
  else s

/-! ### The sample (R69, R72, R73, R76) -/

/-- The channel record after a sample's values are kept and folded into Q (R72, R73); the next sense
interval begins. -/
def Channel.takeSample (c : Channel) (rms : Nat) (onCur : Option Nat) : Channel :=
  { c with lastRms := rms, lastOn := onCur, q := heatUpdate c.profile.tau rms c.q, conducted := false }

/-- The state after a sample's values are kept: latest currents, Q, and a bridge's last drive current
(R72, R73, R120). -/
def State.keepSample (s : State) (ch : Ch) (rms : Nat) (onCur : Option Nat) : State :=
  let s1 := s.setChan ch ((s.chan ch).takeSample rms onCur)
  match bridgeOf ch with
  | some br => s1.storeDriveCurrent br onCur
  | none => s1

/-- The checks after the update (R76, R19): trip, open-load count and stall check while RAMPING or ON;
the cooling check in TRIPPED; nothing in the other states. -/
def State.checkSample (s : State) (ch : Ch) (rms : Nat) (onCur : Option Nat) : State :=
  let c := s.chan ch
  if c.admitted then
    match c.tripCauseOf onCur with
    | some cause => s.trip ch cause rms onCur
    | none =>
      let s1 := s.openCheck ch onCur
      match bridgeOf ch with
      | some br => s1.stallCheck br onCur
      | none => s1
  else if c.st = .tripped then s.coolCheck ch
  else s

/-- The on-current that the converter can have measured: none when the output did not conduct in the
interval, whatever the command carries (R69, R70). -/
def State.sensed (s : State) (ch : Ch) (onCur : Option Nat) : Option Nat :=
  if s.sampleConducted ch then onCur else none

/-- The RMS current of a sample, as the converter delivers it (R69, R70). -/
def State.sampleRms (s : State) (ch : Ch) (rms : Nat) (onCur : Option Nat) : Nat :=
  deliveredRms (typeOf ch) rms (s.sensed ch onCur)

/-- The on-current of a sample, as the converter delivers it (R69, R70). -/
def State.sampleOn (s : State) (ch : Ch) (onCur : Option Nat) : Option Nat :=
  deliveredOn (typeOf ch) (s.sensed ch onCur)

/-- A sense sample (R73, R76), with the values as the converter delivers them (R69, R70). -/
def State.senseSample (s : State) (ch : Ch) (rms : Nat) (onCur : Option Nat) : State :=
  let i := s.sampleRms ch rms onCur
  let o := s.sampleOn ch onCur
  (s.keepSample ch i o).checkSample ch i o

/-- Whether the sample is one that makes the open-load count: admitted, and neither trip check met
(R82); with the channel record after the update. -/
def State.sampleCounts (s : State) (ch : Ch) (rms : Nat) (onCur : Option Nat) : Bool :=
  let i := s.sampleRms ch rms onCur
  let o := s.sampleOn ch onCur
  let c := (s.chan ch).takeSample i o
  c.admitted && c.tripCauseOf o = none

/-- Whether the sample sets the OPEN flag (R83). -/
def State.sampleSetsOpen (s : State) (ch : Ch) (rms : Nat) (onCur : Option Nat) : Bool :=
  s.sampleCounts ch rms onCur &&
    match (s.chan ch).countedCurrent (s.sampleOn ch onCur) with
    | some o => (s.chan ch).setsOpen o
    | none => false

/-- Whether the sample clears the OPEN flag (R84). -/
def State.sampleClearsOpen (s : State) (ch : Ch) (rms : Nat) (onCur : Option Nat) : Bool :=
  s.sampleCounts ch rms onCur &&
    match (s.chan ch).countedCurrent (s.sampleOn ch onCur) with
    | some o => (s.chan ch).clearsOpen o
    | none => false

/-- Whether the sample ends a bridge's drive for stall (R120). -/
def State.sampleStalls (s : State) (br : Bridge) (rms : Nat) (onCur : Option Nat) : Bool :=
  let ch := bridgeChannel br
  let r := s.bridge br
  let p := s.bridgeProfile br
  let n := stallCount p.stall (s.chan ch).st (s.sampleOn ch onCur) r.stall
  s.sampleCounts ch rms onCur && r.st = .drive && p.stall ≠ 0 && r.stall < n && p.stallt ≤ n

end Sys2Proof.Machine
end

