-- ==== Sys2Proof/Machine/Feeds.lean ====
section
/-!
DEFINITION. The feed monitors (chapter 8): samples and counters, the feed state machine, suspension,
shedding, resume and restore.
-/
namespace Sys2Proof.Machine

/-! ### Samples and counters (R129, R130) -/

/-- One counter of consecutive samples (R130). -/
def counted (limit n : Nat) (met : Bool) : Nat := if met then min limit (n + 1) else 0

/-- The seven counters after a sample (R130). -/
def Counters.update (c : Counters) (voltage current vshed cont : Nat) : Counters :=
  { belowCut := counted 5 c.belowCut (voltage < 100)
    aboveResume := counted 50 c.aboveResume (120 ≤ voltage)
    belowShed := counted 200 c.belowShed (voltage < vshed)
    aboveShed := counted 2000 c.aboveShed (vshed + 10 ≤ voltage)
    surge := counted 2 c.surge (340 < voltage)
    surgeClear := counted 100 c.surgeClear (voltage ≤ 320)
    overload := counted 1000 c.overload (cont < current) }

/-- The voltage window after a sample: at most the latest sixteen (R129 step 2). -/
def pushVoltage (w : List Nat) (voltage : Nat) : List Nat :=
  let w' := w ++ [voltage]
  if w'.length = 17 then w'.tail else w'

/-- The mean of a window, rounded down (R129 step 3). -/
def windowMean (w : List Nat) : Nat := w.foldl (· + ·) 0 / w.length

/-- A monitor after steps 1 to 4 of a sample (R129). -/
def Monitor.takeSample (m : Monitor) (voltage current vshed cont : Nat) : Monitor :=
  let w := pushVoltage m.window voltage
  { m with voltage := voltage, current := current, window := w, vavg := windowMean w
           counters := m.counters.update voltage current vshed cont }

/-- The change of state the counters call for, the first row of the present state that holds
(R131). -/
def nextFeedState (st : FeedState) (c : Counters) : Option FeedState :=
  match st with
  | .normal =>
    if c.belowCut = 5 then some .cut
    else if c.surge = 2 then some .surge
    else if c.belowShed = 200 then some .low
    else none
  | .low =>
    if c.belowCut = 5 then some .cut
    else if c.surge = 2 then some .surge
    else if c.aboveShed = 2000 then some .normal
    else none
  | .surge =>
    if c.belowCut = 5 then some .cut
    else if c.surgeClear = 100 then some .normal
    else none
  | .cut => if c.aboveResume = 50 then some .normal else none

/-! ### Suspension (R132, R133) -/

/-- Whether the feed's change to CUT acts on a channel (R132): the states its table names, and for a
bridge those in which it takes the supply end. -/
def cutActs (t : ChannelType) : ChState → Bool
  | .waiting => true
  | .ramping => true
  | .on => true
  | .shed => t ≠ .bridge
  | .suspended => t = .bridge
  | _ => false

/-- Whether the feed's change to SURGE acts on a channel (R133): class 2 or 3, WAITING, RAMPING or
ON. -/
def surgeActs (cls : Nat) : ChState → Bool
  | .waiting => 2 ≤ cls
  | .ramping => 2 ≤ cls
  | .on => 2 ≤ cls
  | _ => false

/-- A channel is suspended (R132): a lamp, heater or fan enters SUSPENDED; a bridge takes the supply
end and, its wish ended, goes OFF. The examination belongs to the feed's change (R56). -/
def State.suspend (s : State) (ch : Ch) : State :=
  match bridgeOf ch with
  | some br => s.dropDrive false br .supply
  | none => s.leaveTo ch .suspended

/-- The channels of a feed on which an entry to CUT acts. -/
def State.cutChannels (s : State) (f : Feed) : List Ch :=
  (channelsOf f).filter fun ch => cutActs (typeOf ch) (s.chan ch).st

/-- The channels of a feed on which an entry to SURGE acts. -/
def State.surgeChannels (s : State) (f : Feed) : List Ch :=
  (channelsOf f).filter fun ch => surgeActs (s.chan ch).profile.cls (s.chan ch).st

/-- The SUSPENDED channels of a feed. -/
def State.suspendedChannels (s : State) (f : Feed) : List Ch :=
  (channelsOf f).filter fun ch => (s.chan ch).st = .suspended

/-- The SHED channels of a feed. -/
def State.shedChannels (s : State) (f : Feed) : List Ch :=
  (channelsOf f).filter fun ch => (s.chan ch).st = .shed

/-! ### Shedding (R136) -/

/-- The channel with the largest stamp, if any; of two with the same stamp the first. -/
def latestOf (s : State) : List Ch → Option Ch
  | [] => none
  | ch :: rest =>
    match latestOf s rest with
    | none => some ch
    | some x => if (s.chan ch).stampNumber < (s.chan x).stampNumber then some x else some ch

/-- The admitted channels of a feed of one class. -/
def State.candidates (s : State) (f : Feed) (cls : Nat) : List Ch :=
  (s.admittedOf f).filter fun ch => (s.chan ch).profile.cls = cls

/-- The victim of a shed (R136): the latest admitted of class 3, else of class 2. -/
def State.victim (s : State) (f : Feed) : Option Ch :=
  match latestOf s (s.candidates f 3) with
  | some ch => some ch
  | none => latestOf s (s.candidates f 2)

/-- A channel's place among the admitted channels of its feed, from 1 for the largest stamp
(R136). -/
def State.placeOf (s : State) (f : Feed) (ch : Ch) : Nat :=
  1 + ((s.admittedOf f).filter fun x =>
    (s.chan ch).stampNumber < (s.chan x).stampNumber).length

/-- The restore timer set to 0 if it is running or stands at its end (R136, R138). -/
def State.zeroRestore (s : State) (f : Feed) : State :=
  s.setMonitor f { s.monitor f with restoreTimer := (s.monitor f).restoreTimer.map fun _ => 0 }

/-- A channel is shed (R136): SHED offered, the channel taken off, a bridge by the supply end with its
DRIVE_END behind the SHED; then the examination of the released claim. -/
def State.shedChannel (s : State) (f : Feed) (cause : ShedCause) (ch : Ch) : State :=
  let m := s.monitor f
  let s1 := (s.zeroRestore f).offerEvent
    (.shed ch f cause (s.chan ch).profile.cls (s.placeOf f ch) m.vavg m.current)
  let s2 := match bridgeOf ch with
    | some br => s1.dropDrive false br .supply
    | none => s1.leaveTo ch .shed
  s2.examine f

/-- A shed step or an overload shed (R134, R137): the victim, if there is one, is shed. -/
def State.shedOne (s : State) (f : Feed) (cause : ShedCause) : State :=
  match s.victim f with
  | some ch => s.shedChannel f cause ch
  | none => s

/-! ### Changes of the feed state (R131 to R135) -/

/-- The number a FEED_STATE event carries (R131 step 3): the channels that step 4 moves to SUSPENDED,
sheds or resumes (log 10). -/
def State.changeNumber (s : State) (f : Feed) (new : FeedState) : Nat :=
  match new with
  | .cut => ((s.cutChannels f).filter fun ch => typeOf ch ≠ .bridge).length
  | .surge => ((s.surgeChannels f).filter fun ch => typeOf ch ≠ .bridge).length
  | .low => if (s.victim f).isSome then 1 else 0
  | .normal => (s.suspendedChannels f).length

/-- Resume (R135): class 0 channels by the bypass, ascending, the others as one batch. -/
def State.resume (s : State) (f : Feed) : State :=
  let chs := s.suspendedChannels f
  let zero := chs.filter fun ch => (s.chan ch).profile.cls = 0
  let rest := chs.filter fun ch => (s.chan ch).profile.cls ≠ 0
  (s.overChannels (fun ch t => t.admitChannel ch) zero).placeBatch f rest

/-- What a change of feed state does to the channels (R131 step 4). -/
def State.actOnChange (s : State) (f : Feed) (new : FeedState) : State :=
  match new with
  | .cut => s.overChannels (fun ch t => t.suspend ch) (s.cutChannels f)
  | .surge => s.overChannels (fun ch t => t.suspend ch) (s.surgeChannels f)
  | .low => s.shedOne f .low
  | .normal => s.resume f

/-- A monitor in its new state (R131 steps 1 and 2). -/
def Monitor.enter (m : Monitor) (new : FeedState) : Monitor :=
  { m with st := new, counters := Counters.zero
           shedTimer := if new = .low then some 0 else none
           restoreTimer := if new = .normal then some 0 else none }

/-- A change of feed state (R131): new state and timers, FEED_STATE, the channels, the
examination. -/
def State.changeFeed (s : State) (f : Feed) (new : FeedState) : State :=
  let m := s.monitor f
  let s1 := s.setMonitor f (m.enter new)
  let s2 := s1.offerEvent (.feedState f m.st new m.voltage m.vavg (s1.changeNumber f new))
  (s2.actOnChange f new).examine f

/-! ### Overload and restore (R137, R138) -/

/-- The overload check (R137): at 1000 a victim is shed and the counter set to 0. -/
def State.overloadCheck (s : State) (f : Feed) : State :=
  if (s.monitor f).counters.overload = 1000 then
    let s1 := s.shedOne f .overload
    let m := s1.monitor f
    s1.setMonitor f { m with counters := { m.counters with overload := 0 } }
  else s

/-- How many channels of a list are admitted. -/
def State.admittedIn (s : State) (chs : List Ch) : Nat :=
  (chs.filter fun ch => (s.chan ch).admitted).length

/-- A restore (R138): every SHED channel of the feed as one batch, RESTORE offered, the timer back to
0; without any the timer stops at 2000. -/
def State.restoreShed (s : State) (f : Feed) : State :=
  let chs := s.shedChannels f
  if chs = [] then s.setMonitor f { s.monitor f with restoreTimer := some 2000 }
  else
    let s1 := s.placeBatch f chs
    let s2 := s1.offerEvent (.restore f chs.length (s1.admittedIn chs))
    s2.setMonitor f { s2.monitor f with restoreTimer := some 0 }

/-- The restore timer at a sample of a NORMAL feed (R138): raised by a sample within CONT, set to 0 by
one above it; at 2000 the restore is made. Stopped, or standing at 2000, it is left as it is. -/
def State.advanceRestore (s : State) (f : Feed) : State :=
  let m := s.monitor f
  match m.restoreTimer with
  | none => s
  | some n =>
    if m.st ≠ .normal ∨ 2000 ≤ n then s
    else if (s.unit f).cont < m.current then s.setMonitor f { m with restoreTimer := some 0 }
    else if n + 1 = 2000 then s.restoreShed f
    else s.setMonitor f { m with restoreTimer := some (n + 1) }

/-! ### The sample (R129) -/

/-- The voltage a sample delivers (R129). -/
def deliveredVoltage (v : Nat) : Nat := min 450 v

/-- The feed current a sample delivers (R129). -/
def deliveredCurrent (i : Nat) : Nat := min 4000 i

/-- The state after steps 1 to 4 of a feed sample (R129). -/
def State.takeFeedSample (s : State) (f : Feed) (voltage current : Nat) : State :=
  s.setMonitor f ((s.monitor f).takeSample (deliveredVoltage voltage) (deliveredCurrent current)
    (s.unit f).vshed (s.unit f).cont)

/-- The change of state that a feed sample calls for (R129 step 5). -/
def State.feedChangeDue (s : State) (f : Feed) : Option FeedState :=
  nextFeedState (s.monitor f).st (s.monitor f).counters

/-- A feed sample (R129). -/
def State.feedSample (s : State) (f : Feed) (voltage current : Nat) : State :=
  let s1 := s.takeFeedSample f voltage current
  match s1.feedChangeDue f with
  | some new => s1.changeFeed f new
  | none => (s1.overloadCheck f).advanceRestore f

/-- Whether the sample changes the feed state (R131). -/
def State.sampleChangesFeed (s : State) (f : Feed) (voltage current : Nat) : Bool :=
  ((s.takeFeedSample f voltage current).feedChangeDue f).isSome

/-- Whether the overload counter reaches 1000 on the sample, with no change of state (R137). -/
def State.sampleOverloads (s : State) (f : Feed) (voltage current : Nat) : Bool :=
  let s1 := s.takeFeedSample f voltage current
  (s1.feedChangeDue f).isNone && (s1.monitor f).counters.overload = 1000

/-- Whether the restore timer reaches 2000 on the sample, with no change of state (R138). -/
def State.sampleRestores (s : State) (f : Feed) (voltage current : Nat) : Bool :=
  let s1 := s.takeFeedSample f voltage current
  (s1.feedChangeDue f).isNone && (s1.monitor f).st = .normal
    && (s1.monitor f).restoreTimer = some 1999 && deliveredCurrent current ≤ (s1.unit f).cont

end Sys2Proof.Machine
end

