-- ==== Sys2Proof/Machine/Mode.lean ====
section
/-!
DEFINITION. The mode controller (chapter 10): sleep, wake, soft reset and the rest conditions; the
wired sample (R45), which acts in ACTIVE and in SLEEP; and how a command is taken by the part.
-/
namespace Sys2Proof.Machine

/-! ### Sleep (R161) -/

/-- An admission unit at entry to SLEEP: its hold record is emptied (R68). -/
def Admission.sleep (u : Admission) : Admission := { u with hold := none }

/-- A feed monitor at entry to SLEEP: its timers stop (R140). -/
def Monitor.sleep (m : Monitor) : Monitor := { m with shedTimer := none, restoreTimer := none }

/-- A client's record at entry to SLEEP: its silence timer stops (R32). -/
def ClientRecord.sleep (r : ClientRecord) : ClientRecord := { r with silence := none }

/-- A port at entry to SLEEP: its status timer stops (R157). -/
def PortRecord.sleep (r : PortRecord) : PortRecord := { r with statusTimer := none }

/-- A like change of two records. -/
def Pair.map {α : Type} (f : α → α) (p : Pair α) : Pair α := ⟨f p.a, f p.b⟩

/-- A like change of five records. -/
def PerClient.map {α : Type} (f : α → α) (p : PerClient α) : PerClient α :=
  ⟨f p.wired, f p.body, f p.engine, f p.climate, f p.service⟩

/-- The entry to SLEEP, one change of the part (R161). Samples, TIMED countdowns and phase timers stop
because they run in ACTIVE alone; the phase timers keep their time left (R114). -/
def State.enterSleep (s : State) : State :=
  { s with
    part := .sleep
    quiet := none
    adm := s.adm.map Admission.sleep
    mon := s.mon.map Monitor.sleep
    clients := s.clients.map ClientRecord.sleep
    ports := s.ports.map PortRecord.sleep }

/-! ### Rest conditions and the check at each event (R161) -/

/-- The rest conditions handed to the mode controller: the debounced levels and, for each channel,
whether it is at rest. -/
def State.handRest (s : State) : State :=
  { s with
    restCh := mapChannels Channel.atRest s.chans
    restIn := ⟨s.level .brake, s.level .hazard, s.level .reverse, s.level .key⟩ }

/-- Whether a condition of sleep entry held by the mode controller became true between two states: a
debounced level became inactive or a channel came to rest (R161). The quiet timer's own event is
SLEEP_ENTRY. -/
def restBegan (before after : State) : Bool :=
  (before.restIn.brake && !after.restIn.brake) || (before.restIn.hazard && !after.restIn.hazard)
    || (before.restIn.reverse && !after.restIn.reverse) || (before.restIn.key && !after.restIn.key)
    || allChannels.any fun ch => !before.restCh[ch] && after.restCh[ch]

/-- The end of every command (R161): the rest conditions are handed over, and if the command made one
of them true and all four conditions hold, the part enters SLEEP in the same change (log 14). -/
def State.settle (before after : State) : State :=
  let s := after.handRest
  if s.part = .active ∧ restBegan before s = true ∧ s.sleepReady = true then s.enterSleep else s

/-! ### Wake (R163) -/

/-- A feed monitor at the wake: CUT, window emptied, Vavg and counters 0, timers stopped (R140). -/
def Monitor.wake (m : Monitor) : Monitor :=
  { m with st := .cut, window := [], vavg := 0, counters := Counters.zero, shedTimer := none
           restoreTimer := none }

/-- A client at the wake: an ACTIVE client's silence timer restarts from 0 (R32). -/
def ClientRecord.wake (r : ClientRecord) : ClientRecord :=
  if r.st = .active then { r with silence := some 0 } else r

/-- The client table at the wake; WIRED has no silence timer (R26). -/
def wakeClients (p : PerClient ClientRecord) : PerClient ClientRecord :=
  { p.map ClientRecord.wake with wired := p.wired }

/-- A channel at the wake: its samples start again with a new interval (R69, R163). -/
def Channel.wake (c : Channel) : Channel := { c with conducted := false }

/-- An ACTIVE port at the wake starts its status timer and makes a status round (R157). -/
def State.wakePort (s : State) (p : Port) : State :=
  match (s.port p).st with
  | .active => s.restartStatus p
  | .busOff => s

/-- The wake, one change of the part (R163 steps 1 to 5). -/
def State.wakeUp (s : State) : State :=
  let s1 := { s with
    part := .active
    quiet := some 0
    chans := mapChannels Channel.wake s.chans
    mon := s.mon.map Monitor.wake
    clients := wakeClients s.clients }
  (s1.wakePort .a).wakePort .b

/-- The part awake: woken if it sleeps. -/
def State.awake (s : State) : State :=
  match s.part with
  | .active => s
  | .sleep => s.wakeUp

/-! ### Soft reset (R164) -/

/-- A channel at a soft reset (R24, R102): WAITING, RAMPING, ON, SHED and SUSPENDED go OFF with timers
and open-load counters cleared; every channel's wish, pending and applied duty are cleared, and the
emptied demand table hands over "not inhibited" (R50). -/
def Channel.softReset (c : Channel) : Channel :=
  let c' := match c.st with
    | .off => c
    | .tripped => c
    | .locked => c
    | _ => c.leaveAdmitted .off
  { c' with wish := false, inhibited := false, pending := 0, applied := 0 }

/-- An admission unit at a soft reset (R68). -/
def Admission.softReset (u : Admission) : Admission :=
  { u with queue := [], sumS := 0, sumR := 0, hold := none }

/-- A bridge at a soft reset (R127): legs off, IDLE, owner cleared; direction, driven time and last
drive current kept. The open-ended mark (R116, log 32) and the stall counter (log 38) are left as they
were. -/
def State.softResetBridge (s : State) (br : Bridge) : State :=
  s.setBridge br { s.bridge br with
    st := .idle, stageTimer := none, driveTimer := none, redrive := false, ending := none
    owner := none, rest := s.restAfterLegsOff br }

/-- What the soft reset clears (R164), before the wired input block places its entries again. -/
def State.clearDemands (s : State) : State :=
  let s1 := (s.softResetBridge .a).softResetBridge .b
  { s1 with
    demand := Vector.replicate 16 emptySlots
    chans := mapChannels Channel.softReset s1.chans
    adm := s1.adm.map Admission.softReset
    groups := s1.groups.map FlashGroup.goIdle
    placed := ⟨[], [], []⟩
    ports := s1.ports.map PortRecord.softReset }

/-- Place a wired input's entries again if its debounced level is active (R49). -/
def State.replaceInput (s : State) (i : WiredInput) : State :=
  if s.level (pinOf i) then s.activateInput i else s

/-- A soft reset taken from a port (R164): everything cleared, RESET_DONE offered to both ports, the
wired entries placed again. -/
def State.softReset (s : State) (p : Port) : State :=
  let s1 := s.clearDemands.offerEvent (.resetDone p s.zone)
  ((s1.replaceInput .brake).replaceInput .hazard).replaceInput .reverse

/-! ### The wired sample (R45 to R47, R161, R163) -/

/-- A pin after a sample (R45). -/
def PinRecord.sample (raw : Bool) (r : PinRecord) : PinRecord :=
  if raw = r.level then { r with raw := raw, count := 0 }
  else if 20 ≤ r.count + 1 then { raw := raw, level := raw, count := 0 }
  else { r with raw := raw, count := r.count + 1 }

/-- Whether the sample makes the pin's debounced level active. -/
def PinRecord.activates (raw : Bool) (r : PinRecord) : Bool :=
  !r.level && (r.sample raw).level

/-- Whether the sample makes the pin's debounced level inactive. -/
def PinRecord.deactivates (raw : Bool) (r : PinRecord) : Bool :=
  r.level && !(r.sample raw).level

/-- The level of one pin in a sample. -/
def levelOf (l : PinLevels) : Pin → Bool
  | .brake => l.brake
  | .hazard => l.hazard
  | .reverse => l.reverse
  | .key => l.key

/-- Whether the sample makes a pin's debounced level active. -/
def State.pinActivates (s : State) (l : PinLevels) (p : Pin) : Bool :=
  (s.pins.get p).activates (levelOf l p)

/-- Whether the sample makes a pin's debounced level inactive. -/
def State.pinDeactivates (s : State) (l : PinLevels) (p : Pin) : Bool :=
  (s.pins.get p).deactivates (levelOf l p)

/-- Whether the sample makes any pin's debounced level active. -/
def State.anyActivates (s : State) (l : PinLevels) : Bool :=
  s.pinActivates l .brake || s.pinActivates l .hazard || s.pinActivates l .reverse
    || s.pinActivates l .key

/-- The four pins after a sample. -/
def State.samplePins (s : State) (l : PinLevels) : State :=
  { s with pins := ⟨s.pins.brake.sample l.brake, s.pins.hazard.sample l.hazard,
                    s.pins.reverse.sample l.reverse, s.pins.key.sample l.key⟩ }

/-- What a change of one input's debounced level does in ACTIVE (R46, R47). -/
def State.inputChange (s : State) (activates deactivates : Bool) (i : WiredInput) : State :=
  if activates then s.activateInput i else if deactivates then s.deactivateInput i else s

/-- A wired sample (R45): the pins are sampled; an activation wakes a sleeping part (R163); the changes
of BRAKE, HAZARD and REVERSE then act in that order (R46, R47; log 5). KEY's change is handed to the
mode controller with the rest conditions (R161). The levels stand when the wake makes its status rounds
(log 35). A level that becomes inactive in SLEEP is only
recorded (R162); the placed sets are empty there (R49). -/
def State.wiredSample (s : State) (l : PinLevels) : State :=
  let s1 := s.samplePins l
  let s2 := if s.anyActivates l then s1.awake else s1
  let s3 := s2.inputChange (s.pinActivates l .brake) (s.pinDeactivates l .brake) .brake
  let s4 := s3.inputChange (s.pinActivates l .hazard) (s.pinDeactivates l .hazard) .hazard
  s4.inputChange (s.pinActivates l .reverse) (s.pinDeactivates l .reverse) .reverse

/-! ### How a command is taken -/

/-- A command of a part with power (R159: without power no block runs, and nothing is taken), with the
rest conditions handed over at its end. -/
def State.run (s : State) (f : State → State) : State :=
  if s.powered then State.settle s (f s) else s

/-- The effect of a command that only happens in ACTIVE. -/
def whenActive (f : State → State) (s : State) : State := if s.part = .active then f s else s

/-- The effect of an event, when it is due. -/
def whenDue (due : State → Bool) (f : State → State) (s : State) : State := if due s then f s else s

end Sys2Proof.Machine
end

