-- ==== Sys2Proof/Machine/Intake.lean ====
section
/-!
DEFINITION. The intake of frames (R142 to R145): identifiers, the request kinds and their lengths,
and how a request is taken, judged, and answered.
-/
namespace Sys2Proof.Machine

/-! ### Identifiers (R141, R142) -/

/-- The identifier of a client's requests in a zone (R141). -/
def requestId (zone : Fin 4) (cl : Client) : Nat := 0x480 + cl.number + 0x10 * zone.val

/-- The client whose request identifier of the zone a frame carries; the identifier that names WIRED is
none of them (R142 test 2). -/
def clientOfId (zone : Fin 4) (id : Nat) : Option Client :=
  if id = requestId zone .body then some .body
  else if id = requestId zone .engine then some .engine
  else if id = requestId zone .climate then some .climate
  else if id = requestId zone .service then some .service
  else none

/-- The client a frame names if it passes tests 1 and 2 of R142: no remote frame, no 29-bit
identifier, one of the zone's four request identifiers. -/
def frameClient (zone : Fin 4) (f : CanFrame) : Option Client :=
  if f.remote || f.extended then none else clientOfId zone f.id

/-- Whether a client's frames are taken on a port (R27's table, test 3 of R142). -/
def takesOn : Client → Port → Bool
  | .body, .a => true
  | .climate, .a => true
  | .engine, .b => true
  | .service, _ => true
  | _, _ => false

/-! ### Kinds and lengths (R143, 09 section 9.9) -/

/-- The data length of each request kind; `none` for a code that is no request kind. -/
def kindLength (kind : Byte) : Option Nat :=
  match kind.toNat with
  | 0x01 => some 1
  | 0x10 => some 4
  | 0x11 => some 6
  | 0x12 => some 6
  | 0x13 => some 2
  | 0x14 => some 5
  | 0x18 => some 2
  | 0x19 => some 2
  | 0x20 => some 4
  | 0x21 => some 2
  | 0x22 => some 6
  | 0x30 => some 7
  | 0x31 => some 8
  | 0x32 => some 7
  | 0x33 => some 7
  | 0x34 => some 7
  | 0x35 => some 8
  | 0x38 => some 8
  | 0x39 => some 4
  | 0x3A => some 4
  | 0x40 => some 2
  | 0x7E => some 1
  | _ => none

/-- The refusal the port gives a frame's data, if any (R143). -/
def portRefusal : List Byte → Option RefusalCode
  | [] => some .badFormat
  | kind :: rest =>
    match kindLength kind with
    | none => some .unknownKind
    | some n => if rest.length + 1 = n then none else some .badFormat

/-! ### How a request is taken -/

/-- What an owning block answers to a request (R143). -/
inductive Verdict where
  | accept (s : State)
  | refuse (code : RefusalCode)

/-- Each port tells the mode controller of every accepted request, which restarts the quiet timer
(R143, R160). -/
def State.noteAccepted (s : State) : State := { s with quiet := some 0 }

/-- A frame from a client on a port, up to the point where the port looks at its data (R142, R145): a
BUS_OFF port does not receive it, and sees activity on its bus (R155, log 18); the identifier that
names WIRED is ignored; in SLEEP the frame wakes the part; a port on which the client's frames are not
taken ignores it; otherwise the client is refreshed (R27) and the frame judged by `judged`. -/
def State.takeFrame (src : Source) (judged : State → State) (s : State) : State :=
  match (s.port src.port).st with
  | .busOff => s.seeActivity src.port
  | .active =>
    if src.client = .wired then s
    else
      let s1 := s.awake
      if takesOn src.client src.port then judged (s1.refresh src.client src.port) else s1

/-- A request's judgement (R143, R144): accepted with its effect, or refused with a REPLY that echoes
its kind and byte 1. -/
def State.judge (src : Source) (kind byte1 : Byte) (judgement : State → Verdict) (s : State) :
    State :=
  match judgement s with
  | .accept s' => s'.noteAccepted
  | .refuse code => s.offerReply src.port kind src.client code byte1

/-- A request frame, taken and judged. -/
def State.request (src : Source) (kind byte1 : Byte) (judgement : State → Verdict) (s : State) :
    State :=
  s.takeFrame src (State.judge src kind byte1 judgement)

/-- Whether a raw frame is ignored by an ACTIVE port (R142): it fails test 1, 2 or 3. -/
def frameIgnored (zone : Fin 4) (p : Port) (f : CanFrame) : Bool :=
  match frameClient zone f with
  | none => true
  | some cl => !takesOn cl p

/-- A raw frame that a port ignores (R142, R145): one that passes tests 1 and 2 wakes a sleeping part
before it is ignored. A frame the port would take is no such event and changes nothing. -/
def State.ignoreFrame (p : Port) (f : CanFrame) (s : State) : State :=
  match (s.port p).st with
  | .busOff => s.seeActivity p
  | .active =>
    match frameClient s.zone f with
    | none => s
    | some cl => if takesOn cl p then s else s.awake

/-- A raw frame taken from a client and refused by the port (R143, R144): length 0 and a wrong length
are BAD_FORMAT, an unknown kind is UNKNOWN_KIND; bytes 0 and 1 are echoed, or 0 where absent. A frame
whose kind and length are right is no such event and changes nothing. -/
def State.refuseFrame (p : Port) (f : CanFrame) (s : State) : State :=
  match frameClient s.zone f, portRefusal f.data with
  | some cl, some code =>
    if takesOn cl p then
      s.takeFrame { port := p, client := cl } fun t =>
        t.offerReply p (f.data.getD 0 0) cl code (f.data.getD 1 0)
    else s
  | _, _ => s

end Sys2Proof.Machine
end

