-- ==== Sys2Proof/Decode.lean ====
section
/-!
DEFINITION. Reading a request frame as a command and writing a request command as a frame (R142, R143,
09 section 9.9), and the table's own words, of which there are none.
-/
namespace Sys2Proof

open Sys2Proof.Machine (requestId frameClient takesOn portRefusal)

/-! ### The table's bits -/

/-- The command that a word spells by the bits of spec/opcode_table.json. The table gives no row any
bits, so no word spells a command. -/
def decodeTableWord (_nbits _w : Nat) : Option Instr := none

/-! ### Fields of a frame (09, section 9.9) -/

/-- A two-byte field, most significant byte first. -/
def halfOf (hi lo : Byte) : Half := hi ++ lo

/-- The more significant byte of a two-byte field. -/
def hiByte (h : Half) : Byte := h.extractLsb' 8 8

/-- The less significant byte of a two-byte field. -/
def loByte (h : Half) : Byte := h.extractLsb' 0 8

/-- A two-byte field as its bytes. -/
def halfBytes (h : Half) : List Byte := [hiByte h, loByte h]

/-! ### From bytes to a request -/

/-- The request that a frame's bytes carry, for a frame of the length its kind has (section 9.9). -/
def requestOf (src : Source) : List Byte → Option Instr
  | [0x01] => some (.present src)
  | [0x10, ch, d1, d0] => some (.setSteady src ch (halfOf d1 d0))
  | [0x11, ch, d1, d0, t1, t0] => some (.setTimed src ch (halfOf d1 d0) (halfOf t1 t0))
  | [0x12, ch, d1, d0, group, count] => some (.setFlash src ch (halfOf d1 d0) group count)
  | [0x13, ch] => some (.setInhibit src ch)
  | [0x14, ch, dir, t1, t0] => some (.drive src ch dir (halfOf t1 t0))
  | [0x18, ch] => some (.release src ch)
  | [0x19, ch] => some (.clear src ch)
  | [0x20, feed, level, time] => some (.hold src feed level time)
  | [0x21, feed] => some (.unhold src feed)
  | [0x22, group, p1, p0, s1, s0] => some (.flashCfg src group (halfOf p1 p0) (halfOf s1 s0))
  | [0x30, ch, ct, r1, r0, s1, s0] =>
    some (.profileA src ch (ct.extractLsb' 4 4) (ct.extractLsb' 0 4) (halfOf r1 r0) (halfOf s1 s0))
  | [0x31, ch, i1, i0, w1, w0, retries, thr] =>
    some (.profileB src ch (halfOf i1 i0) (halfOf w1 w0) retries thr)
  | [0x32, ch, i1, i0, r1, r0, silence] =>
    some (.profileC src ch (halfOf i1 i0) (halfOf r1 r0) silence)
  | [0x33, ch, p2, p1, p0, v1, v0] => some (.profileD src ch (p2 ++ p1 ++ p0) (halfOf v1 v0))
  | [0x34, ch, rights, input, mode, d1, d0] =>
    some (.profileE src ch rights input mode (halfOf d1 d0))
  | [0x35, ch, s1, s0, stallt, braket, deadt, idle] =>
    some (.profileF src ch (halfOf s1 s0) stallt braket deadt idle)
  | [0x38, feed, p1, p0, c1, c0, v1, v0] =>
    some (.feedCfg src feed (halfOf p1 p0) (halfOf c1 c0) (halfOf v1 v0))
  | [0x39, client, t1, t0] => some (.clientCfg src client (halfOf t1 t0))
  | [0x3A, port, i1, i0] => some (.statusCfg src port (halfOf i1 i0))
  | [0x40, ch] => some (.read src ch)
  | [0x7E] => some (.reset src)
  | _ => none

/-- The command that a received frame is to a part of a zone (R142, R143): ignored by the port, refused
by the port, or a request. -/
def decodeFrame (zone : Fin 4) (p : Port) (f : CanFrame) : Instr :=
  match frameClient zone f with
  | none => .frameIgnored p f
  | some cl =>
    if takesOn cl p then
      match requestOf { port := p, client := cl } f.data with
      | some i => i
      | none => .frameRefusedByPort p f
    else .frameIgnored p f

/-! ### From a request to bytes -/

/-- The source and the bytes of a request command; a command that is no request frame has none. -/
def requestBytes : Instr → Option (Source × List Byte)
  | .present src => some (src, [0x01])
  | .setSteady src ch duty => some (src, [0x10, ch] ++ halfBytes duty)
  | .setTimed src ch duty duration => some (src, [0x11, ch] ++ halfBytes duty ++ halfBytes duration)
  | .setFlash src ch duty group count => some (src, [0x12, ch] ++ halfBytes duty ++ [group, count])
  | .setInhibit src ch => some (src, [0x13, ch])
  | .drive src ch dir duration => some (src, [0x14, ch, dir] ++ halfBytes duration)
  | .release src ch => some (src, [0x18, ch])
  | .clear src ch => some (src, [0x19, ch])
  | .hold src feed level duration => some (src, [0x20, feed, level, duration])
  | .unhold src feed => some (src, [0x21, feed])
  | .flashCfg src group period share =>
    some (src, [0x22, group] ++ halfBytes period ++ halfBytes share)
  | .profileA src ch cls tau rated short =>
    some (src, [0x30, ch, cls ++ tau] ++ halfBytes rated ++ halfBytes short)
  | .profileB src ch ishort window retries thr =>
    some (src, [0x31, ch] ++ halfBytes ishort ++ halfBytes window ++ [retries, thr])
  | .profileC src ch iclaim rclaim silence =>
    some (src, [0x32, ch] ++ halfBytes iclaim ++ halfBytes rclaim ++ [silence])
  | .profileD src ch period vt =>
    some (src, [0x33, ch, period.extractLsb' 16 8, period.extractLsb' 8 8, period.extractLsb' 0 8]
      ++ halfBytes vt)
  | .profileE src ch rights input mode duty =>
    some (src, [0x34, ch, rights, input, mode] ++ halfBytes duty)
  | .profileF src ch stall stallt braket deadt idle =>
    some (src, [0x35, ch] ++ halfBytes stall ++ [stallt, braket, deadt, idle])
  | .feedCfg src feed peak cont vshed =>
    some (src, [0x38, feed] ++ halfBytes peak ++ halfBytes cont ++ halfBytes vshed)
  | .clientCfg src client timeout => some (src, [0x39, client] ++ halfBytes timeout)
  | .statusCfg src port interval => some (src, [0x3A, port] ++ halfBytes interval)
  | .read src ch => some (src, [0x40, ch])
  | .reset src => some (src, [0x7E])
  | _ => none

/-- The frame a request command arrives as, on a part of a zone (R141). -/
def encodeFrame (zone : Fin 4) (i : Instr) : Option (Port × CanFrame) :=
  (requestBytes i).map fun x =>
    (x.1.port, { remote := false, extended := false, id := requestId zone x.1.client, data := x.2 })

end Sys2Proof
end

