-- ==== Sys2Proof/Machine/Requests.lean ====
section
/-!
DEFINITION. The meanings of the request frames: for each kind the judgement of its owning block (the
checks in the order its rule gives, then the effect) and the command's meaning.
-/
namespace Sys2Proof.Machine

/-! ### Channel requests (R36 to R40, R20) -/

/-- Check 1 of R36, and of R3 and R152: the channel a byte names, or BAD_TARGET. -/
def onChannel (ch : Byte) (k : Ch → Verdict) : Verdict :=
  match channelOfByte ch with
  | some c => k c
  | none => .refuse .badTarget

/-- A check that gives a refusal code when it fails. -/
def check (ok : Bool) (code : RefusalCode) (v : Verdict) : Verdict :=
  if ok then v else .refuse code

/-- SET_STEADY (R36 to R38): a duty of 0 is taken as a RELEASE of the channel. -/
def judgeSetSteady (cl : Client) (ch : Byte) (duty : Half) (s : State) : Verdict :=
  onChannel ch fun c =>
    check (typeOf c ≠ .bridge) .badTarget <|
    check ((s.chan c).profile.allowsDemand cl) .noRight <|
    .accept (if dutyRecorded duty = 0 then s.releaseEntry cl c
      else s.recordEntry c cl (.steady (dutyRecorded duty) false))

/-- SET_TIMED (R36 to R38, R41). -/
def judgeSetTimed (cl : Client) (ch : Byte) (duty duration : Half) (s : State) : Verdict :=
  onChannel ch fun c =>
    check (typeOf c ≠ .bridge) .badTarget <|
    check ((s.chan c).profile.allowsDemand cl) .noRight <|
    .accept (s.recordEntry c cl (.timed (dutyRecorded duty) (timedRecorded duration) 0))

/-- SET_FLASH (R36 to R38): on a lamp and a group 0 or 1. -/
def judgeSetFlash (cl : Client) (ch : Byte) (duty : Half) (group count : Byte) (s : State) :
    Verdict :=
  onChannel ch fun c =>
    check (typeOf c = .lamp) .badTarget <|
    match sideOfByte group with
    | none => .refuse .badTarget
    | some g =>
      check ((s.chan c).profile.allowsDemand cl) .noRight <|
      .accept (s.recordEntry c cl
        (.flash (dutyRecorded duty) g count.toNat count.toNat false false))

/-- SET_INHIBIT (R36, R38, R44). -/
def judgeSetInhibit (cl : Client) (ch : Byte) (s : State) : Verdict :=
  onChannel ch fun c =>
    check ((s.chan c).profile.allowsInhibit cl) .noRight <|
    .accept (s.recordEntry c cl .inhibit)

/-- An accepted DRIVE (R39): the sender becomes or stays the owner, its entry is recorded with a clear
ending mark and handed to the sequencer, and the channel is recomputed. -/
def State.acceptDrive (s : State) (br : Bridge) (cl : Client) (dir : Direction) (duration : Nat) :
    State :=
  let ch := bridgeChannel br
  let s1 := s.setSlot ch cl (some (.drive dir duration false))
  let s2 := s1.setBridge br { s1.bridge br with owner := some cl }
  (s2.driveTaken br dir duration).recomputed ch

/-- Whether a bridge has an owner other than the sender (R36 check 4). -/
def BridgeRecord.ownedByOther (r : BridgeRecord) (cl : Client) : Bool :=
  match r.owner with
  | some x => x ≠ cl
  | none => false

/-- DRIVE (R36, R37, R39). -/
def judgeDrive (cl : Client) (ch direction : Byte) (duration : Half) (s : State) : Verdict :=
  onChannel ch fun c =>
    match bridgeOf c with
    | none => .refuse .badTarget
    | some br =>
      check ((s.chan c).profile.allowsDemand cl) .noRight <|
      check (!(s.bridge br).ownedByOther cl) .busy <|
      .accept (s.acceptDrive br cl (directionOfCode direction) (driveRecorded duration))

/-- RELEASE (R36, R40): one channel, or all sixteen for 0xFF, ascending (log 13). -/
def judgeRelease (cl : Client) (ch : Byte) (s : State) : Verdict :=
  if ch = 0xFF then
    .accept (s.overChannels (fun c t => t.releaseEntry cl c) allChannels)
  else onChannel ch fun c => .accept (s.releaseEntry cl c)

/-- A channel cleared (R20): trip count 0, LOCKED to TRIPPED. -/
def Channel.clear (c : Channel) : Channel :=
  { c with tripCount := 0, st := if c.st = .locked then .tripped else c.st }

/-- CLEAR (R20, R33, R36). -/
def judgeClear (cl : Client) (ch : Byte) (s : State) : Verdict :=
  onChannel ch fun c =>
    check ((s.chan c).profile.allowsClear cl) .noRight <|
    .accept (s.setChan c (s.chan c).clear)

/-! ### Holds and flash configuration (R63, R64, R104) -/

/-- Whether a hold has a holder other than the sender. -/
def Admission.heldByOther (u : Admission) (cl : Client) : Bool :=
  match u.hold with
  | some h => h.holder ≠ cl
  | none => false

/-- HOLD (R63). -/
def judgeHold (cl : Client) (feed level duration : Byte) (s : State) : Verdict :=
  match sideOfByte feed with
  | none => .refuse .badTarget
  | some f =>
    check (mayHold cl) .noRight <|
    check (!(s.unit f).heldByOther cl) .busy <|
    let h : Hold := { holder := cl, level := holdLevel level, remaining := holdTime duration }
    .accept ((s.setUnit f { s.unit f with hold := some h }).examine f)

/-- UNHOLD (R64): SERVICE may end any hold; an empty record is left as it is. -/
def judgeUnhold (cl : Client) (feed : Byte) (s : State) : Verdict :=
  match sideOfByte feed with
  | none => .refuse .badTarget
  | some f =>
    check (mayHold cl) .noRight <|
    check (cl = .service || !(s.unit f).heldByOther cl) .busy <|
    .accept (s.endHold f .unhold (some cl))

/-- A group's record after an accepted FLASH_CFG (R104). -/
def FlashGroup.configure (period onShare : Nat) (r : FlashGroup) : FlashGroup :=
  if r.phase = .idle then
    { r with curPeriod := period, curOn := onShare, pendPeriod := period, pendOn := onShare }
  else { r with pendPeriod := period, pendOn := onShare }

/-- FLASH_CFG (R104). -/
def judgeFlashCfg (cl : Client) (group : Byte) (period onShare : Half) (s : State) : Verdict :=
  match sideOfByte group with
  | none => .refuse .badTarget
  | some g =>
    check (mayFlashCfg cl) .noRight <|
    .accept (s.setGroup g ((s.group g).configure (clamp 200 2000 period.toNat)
      (clamp 300 700 onShare.toNat)))

/-! ### Profiles (R3 to R10) -/

/-- Checks 3 and 4 of R3: SERVICE alone, and only on an OFF channel. -/
def checkProfile (cl : Client) (c : Ch) (s : State) (accepted : State) : Verdict :=
  check (cl = .service) .noRight <|
  check ((s.chan c).st = .off) .state <|
  .accept accepted

/-- A channel's profile written, its DEFAULT flag cleared (R3, R10). -/
def State.writeProfile (s : State) (c : Ch) (f : Profile → Profile) : State :=
  s.setChan c { s.chan c with profile := f (s.chan c).profile, default := false }

/-- Remove every INHIBIT entry on a channel (R4). -/
def State.removeInhibits (s : State) (c : Ch) : State :=
  Client.all.foldl (fun t cl =>
    if t.slot c cl = some .inhibit then t.setSlot c cl none else t) s

/-- PROFILE_A accepted (R4): a new CLASS of 0 also removes the INHIBIT entries on the channel, whose
combined demand is recomputed. -/
def State.acceptProfileA (s : State) (c : Ch) (cls tau : BitVec 4) (rated short : Half) : State :=
  let s1 := s.writeProfile c (Profile.writeA (typeOf c) cls tau rated short)
  if (s1.chan c).profile.cls = 0 then (s1.removeInhibits c).recomputed c else s1

/-- PROFILE_B accepted (R5): the trip count is lowered to a smaller RETRIES. -/
def State.acceptProfileB (s : State) (c : Ch) (ishort window : Half) (retries openThr : Byte) :
    State :=
  let s1 := s.writeProfile c (Profile.writeB (typeOf c) ishort window retries openThr)
  let r := s1.chan c
  s1.setChan c { r with tripCount := min r.tripCount r.profile.retries }

/-- PROFILE_C accepted (R6), with the budgets of the channel's feed as they stand. -/
def State.acceptProfileC (s : State) (c : Ch) (iclaim rclaim : Half) (silence : Byte) : State :=
  let u := s.unit (feedOf c)
  s.writeProfile c (Profile.writeC (typeOf c) u.peak u.cont iclaim rclaim silence)

/-- PROFILE_D accepted (R7). -/
def State.acceptProfileD (s : State) (c : Ch) (period : BitVec 24) (vt : Half) : State :=
  s.writeProfile c (Profile.writeD (typeOf c) period vt)

/-- PROFILE_E accepted (R8). -/
def State.acceptProfileE (s : State) (c : Ch) (rights input mode : Byte) (duty : Half) : State :=
  s.writeProfile c (Profile.writeE (typeOf c) rights input mode duty)

/-- PROFILE_F accepted (R9). A new IDLE of FLOAT opens low sides that were closed, so the legs go all
off from a state in which a switch was on and the rest timer restarts (R125). -/
def State.acceptProfileF (s : State) (c : Ch) (br : Bridge) (stall : Half)
    (stallt braket deadt idle : Byte) : State :=
  let s1 := s.writeProfile c (Profile.writeF stall stallt braket deadt idle)
  if s.lowSidesClosed br && !s1.lowSidesClosed br then
    s1.setBridge br { s1.bridge br with rest := some 0 }
  else s1

/-- PROFILE_A (R3, R4). -/
def judgeProfileA (cl : Client) (ch : Byte) (cls tau : BitVec 4) (rated short : Half) (s : State) :
    Verdict :=
  onChannel ch fun c => checkProfile cl c s (s.acceptProfileA c cls tau rated short)

/-- PROFILE_B (R3, R5). -/
def judgeProfileB (cl : Client) (ch : Byte) (ishort window : Half) (retries openThr : Byte)
    (s : State) : Verdict :=
  onChannel ch fun c => checkProfile cl c s (s.acceptProfileB c ishort window retries openThr)

/-- PROFILE_C (R3, R6). -/
def judgeProfileC (cl : Client) (ch : Byte) (iclaim rclaim : Half) (silence : Byte) (s : State) :
    Verdict :=
  onChannel ch fun c => checkProfile cl c s (s.acceptProfileC c iclaim rclaim silence)

/-- PROFILE_D (R3, R7). -/
def judgeProfileD (cl : Client) (ch : Byte) (period : BitVec 24) (vt : Half) (s : State) :
    Verdict :=
  onChannel ch fun c => checkProfile cl c s (s.acceptProfileD c period vt)

/-- PROFILE_E (R3, R8). -/
def judgeProfileE (cl : Client) (ch rights input mode : Byte) (duty : Half) (s : State) : Verdict :=
  onChannel ch fun c => checkProfile cl c s (s.acceptProfileE c rights input mode duty)

/-- PROFILE_F (R3, R9): BAD_TARGET on a channel that is no bridge, before the other checks. -/
def judgeProfileF (cl : Client) (ch : Byte) (stall : Half) (stallt braket deadt idle : Byte)
    (s : State) : Verdict :=
  onChannel ch fun c =>
    match bridgeOf c with
    | none => .refuse .badTarget
    | some br => checkProfile cl c s (s.acceptProfileF c br stall stallt braket deadt idle)

/-! ### FEED_CFG, CLIENT_CFG, STATUS_CFG, READ, RESET -/

/-- FEED_CFG accepted (R52): the clamped figures take effect together, the claims of the feed's
channels are clamped, the queue is examined. -/
def State.acceptFeedCfg (s : State) (f : Feed) (peak cont vshed : Half) : State :=
  let peak' := clamp 100 4000 peak.toNat
  let cont' := min (clamp 100 4000 cont.toNat) peak'
  let s1 := s.setUnit f { s.unit f with peak := peak', cont := cont'
                                        vshed := clamp 160 240 vshed.toNat }
  let s2 := s1.overChannels (fun ch t => t.setChan ch { t.chan ch with
    profile := (t.chan ch).profile.clampClaims peak' cont' }) (channelsOf f)
  s2.examine f

/-- FEED_CFG (R52). -/
def judgeFeedCfg (cl : Client) (feed : Byte) (peak cont vshed : Half) (s : State) : Verdict :=
  match sideOfByte feed with
  | none => .refuse .badTarget
  | some f =>
    check (cl = .service) .noRight <|
    check ((channelsOf f).all fun ch => (s.chan ch).st = .off) .state <|
    .accept (s.acceptFeedCfg f peak cont vshed)

/-- CLIENT_CFG accepted (R31): the timeout is stored; an ACTIVE client whose timer already stands at or
above it expires at once. -/
def State.acceptClientCfg (s : State) (who : Client) (timeout : Half) : State :=
  let r := { s.client who with timeout := clamp 50 5000 timeout.toNat }
  let s1 := s.setClient who r
  if r.st = .active ∧ reached r.timeout r.silence then s1.expireSilence who else s1

/-- CLIENT_CFG (R31). -/
def judgeClientCfg (cl : Client) (client : Byte) (timeout : Half) (s : State) : Verdict :=
  match clientOfByte client with
  | none => .refuse .badTarget
  | some who => check (cl = .service) .noRight <| .accept (s.acceptClientCfg who timeout)

/-- STATUS_CFG accepted (R150): a timer already at or above the new interval makes a round at once. -/
def State.acceptStatusCfg (s : State) (p : Port) (interval : Half) : State :=
  let r := { s.port p with interval := clamp 20 1000 interval.toNat }
  let s1 := s.setPort p r
  if reached r.interval r.statusTimer then s1.restartStatus p else s1

/-- STATUS_CFG (R150). -/
def judgeStatusCfg (cl : Client) (port : Byte) (interval : Half) (s : State) : Verdict :=
  match sideOfByte port with
  | none => .refuse .badTarget
  | some p => check (cl = .service) .noRight <| .accept (s.acceptStatusCfg p interval)

/-- READ (R152): the read becomes the receiving port's pending read, which is checked at once (R153). -/
def judgeRead (p : Port) (ch : Byte) (s : State) : Verdict :=
  onChannel ch fun c =>
    check ((s.port p).read = none) .busy <|
    .accept ((s.setPort p { s.port p with read := some c }).checkRead p)

/-- RESET (R164). -/
def judgeReset (src : Source) (s : State) : Verdict :=
  check (src.client = .service) .noRight <| .accept (s.softReset src.port)

/-! ### The meanings -/

/-- PRESENT (R27, R34): always accepted; it acts through the refresh of its sender. -/
def execPresent (src : Source) (s : State) : Host.Outcome State Fault Refusal :=
  .next (s.run (State.request src 0x01 0 fun t => .accept t))

/-- SET_STEADY (R38). -/
def execSetSteady (src : Source) (ch : Byte) (duty : Half) (s : State) :
    Host.Outcome State Fault Refusal :=
  .next (s.run (State.request src 0x10 ch (judgeSetSteady src.client ch duty)))

/-- SET_TIMED (R38). -/
def execSetTimed (src : Source) (ch : Byte) (duty duration : Half) (s : State) :
    Host.Outcome State Fault Refusal :=
  .next (s.run (State.request src 0x11 ch (judgeSetTimed src.client ch duty duration)))

/-- SET_FLASH (R38). -/
def execSetFlash (src : Source) (ch : Byte) (duty : Half) (group count : Byte) (s : State) :
    Host.Outcome State Fault Refusal :=
  .next (s.run (State.request src 0x12 ch (judgeSetFlash src.client ch duty group count)))

/-- SET_INHIBIT (R44). -/
def execSetInhibit (src : Source) (ch : Byte) (s : State) : Host.Outcome State Fault Refusal :=
  .next (s.run (State.request src 0x13 ch (judgeSetInhibit src.client ch)))

/-- DRIVE (R39). -/
def execDrive (src : Source) (ch direction : Byte) (duration : Half) (s : State) :
    Host.Outcome State Fault Refusal :=
  .next (s.run (State.request src 0x14 ch (judgeDrive src.client ch direction duration)))

/-- RELEASE (R40). -/
def execRelease (src : Source) (ch : Byte) (s : State) : Host.Outcome State Fault Refusal :=
  .next (s.run (State.request src 0x18 ch (judgeRelease src.client ch)))

/-- CLEAR (R20). -/
def execClear (src : Source) (ch : Byte) (s : State) : Host.Outcome State Fault Refusal :=
  .next (s.run (State.request src 0x19 ch (judgeClear src.client ch)))

/-- HOLD (R63). -/
def execHold (src : Source) (feed level duration : Byte) (s : State) :
    Host.Outcome State Fault Refusal :=
  .next (s.run (State.request src 0x20 feed (judgeHold src.client feed level duration)))

/-- UNHOLD (R64). -/
def execUnhold (src : Source) (feed : Byte) (s : State) : Host.Outcome State Fault Refusal :=
  .next (s.run (State.request src 0x21 feed (judgeUnhold src.client feed)))

/-- FLASH_CFG (R104). -/
def execFlashCfg (src : Source) (group : Byte) (period onShare : Half) (s : State) :
    Host.Outcome State Fault Refusal :=
  .next (s.run (State.request src 0x22 group (judgeFlashCfg src.client group period onShare)))

/-- PROFILE_A (R4). -/
def execProfileA (src : Source) (ch : Byte) (cls tau : BitVec 4) (rated short : Half) (s : State) :
    Host.Outcome State Fault Refusal :=
  .next (s.run (State.request src 0x30 ch (judgeProfileA src.client ch cls tau rated short)))

/-- PROFILE_B (R5). -/
def execProfileB (src : Source) (ch : Byte) (ishort window : Half) (retries openThr : Byte)
    (s : State) : Host.Outcome State Fault Refusal :=
  .next (s.run (State.request src 0x31 ch
    (judgeProfileB src.client ch ishort window retries openThr)))

/-- PROFILE_C (R6). -/
def execProfileC (src : Source) (ch : Byte) (iclaim rclaim : Half) (silence : Byte) (s : State) :
    Host.Outcome State Fault Refusal :=
  .next (s.run (State.request src 0x32 ch (judgeProfileC src.client ch iclaim rclaim silence)))

/-- PROFILE_D (R7). -/
def execProfileD (src : Source) (ch : Byte) (period : BitVec 24) (vt : Half) (s : State) :
    Host.Outcome State Fault Refusal :=
  .next (s.run (State.request src 0x33 ch (judgeProfileD src.client ch period vt)))

/-- PROFILE_E (R8). -/
def execProfileE (src : Source) (ch rights input mode : Byte) (duty : Half) (s : State) :
    Host.Outcome State Fault Refusal :=
  .next (s.run (State.request src 0x34 ch (judgeProfileE src.client ch rights input mode duty)))

/-- PROFILE_F (R9). -/
def execProfileF (src : Source) (ch : Byte) (stall : Half) (stallt braket deadt idle : Byte)
    (s : State) : Host.Outcome State Fault Refusal :=
  .next (s.run (State.request src 0x35 ch
    (judgeProfileF src.client ch stall stallt braket deadt idle)))

/-- FEED_CFG (R52). -/
def execFeedCfg (src : Source) (feed : Byte) (peak cont vshed : Half) (s : State) :
    Host.Outcome State Fault Refusal :=
  .next (s.run (State.request src 0x38 feed (judgeFeedCfg src.client feed peak cont vshed)))

/-- CLIENT_CFG (R31). -/
def execClientCfg (src : Source) (client : Byte) (timeout : Half) (s : State) :
    Host.Outcome State Fault Refusal :=
  .next (s.run (State.request src 0x39 client (judgeClientCfg src.client client timeout)))

/-- STATUS_CFG (R150). -/
def execStatusCfg (src : Source) (port : Byte) (interval : Half) (s : State) :
    Host.Outcome State Fault Refusal :=
  .next (s.run (State.request src 0x3A port (judgeStatusCfg src.client port interval)))

/-- READ (R152). -/
def execRead (src : Source) (ch : Byte) (s : State) : Host.Outcome State Fault Refusal :=
  .next (s.run (State.request src 0x40 ch (judgeRead src.port ch)))

/-- RESET (R164). -/
def execReset (src : Source) (s : State) : Host.Outcome State Fault Refusal :=
  .next (s.run (State.request src 0x7E 0 (judgeReset src)))

/-- FRAME_IGNORED (R142, R145). -/
def execFrameIgnored (port : Port) (f : CanFrame) (s : State) : Host.Outcome State Fault Refusal :=
  .next (s.run (State.ignoreFrame port f))

/-- FRAME_REFUSED_BY_PORT (R143, R144). -/
def execFrameRefusedByPort (port : Port) (f : CanFrame) (s : State) :
    Host.Outcome State Fault Refusal :=
  .next (s.run (State.refuseFrame port f))

end Sys2Proof.Machine
end

