-- ==== Sys2Proof/Machine/Events.lean ====
section
/-!
DEFINITION. The meanings of the commands that are no frames: supply, samples, expiries, bus events,
sleep and wake. An expiry acts when its timer runs and has reached its end; otherwise the expiry does
not occur and nothing changes (log 3). A row inside a larger step acts as that step when the step
brings it about (log 4).
-/
namespace Sys2Proof.Machine

/-! ### Supply (R158, R159) -/

/-- The part after a power-on reset: every block at its power-on values, the zone read from the straps
(R158). The queue of commands and the model's free index are not the part's. -/
def State.powerOnReset (s : State) (zone : Fin 4) : State :=
  { State.powerOn zone with freeIndex := s.freeIndex, pending := s.pending }

/-- POWER_ON_RESET (R158). -/
def execPowerOnReset (zone : Fin 4) (s : State) : Host.Outcome State Fault Refusal :=
  .next (s.powerOnReset zone)

/-- VKEEP_LOSS (R159): the part stops. Outputs and legs are off without power (`State.conducts`,
`State.legs`), and no block takes a command until the next power-on reset. -/
def execVkeepLoss (s : State) : Host.Outcome State Fault Refusal :=
  .next { s with powered := false }

/-! ### Channels -/

/-- SENSE_SAMPLE (R69, R73, R76): taken in ACTIVE alone. -/
def execSenseSample (ch : Ch) (rms : Nat) (onCur : Option Nat) (s : State) :
    Host.Outcome State Fault Refusal :=
  .next (s.run (whenActive fun t => t.senseSample ch rms onCur))

/-- OPEN_SET (R83): the sample that sets the OPEN flag. -/
def execOpenSet (ch : Ch) (rms : Nat) (onCur : Option Nat) (s : State) :
    Host.Outcome State Fault Refusal :=
  .next (s.run (whenActive (whenDue (fun t => t.sampleSetsOpen ch rms onCur)
    fun t => t.senseSample ch rms onCur)))

/-- OPEN_CLEAR (R84): the sample that clears the OPEN flag. -/
def execOpenClear (ch : Ch) (rms : Nat) (onCur : Option Nat) (s : State) :
    Host.Outcome State Fault Refusal :=
  .next (s.run (whenActive (whenDue (fun t => t.sampleClearsOpen ch rms onCur)
    fun t => t.senseSample ch rms onCur)))

/-- Whether a channel's inrush window expires now: RAMPING with no time left (R17). -/
def State.windowDue (ch : Ch) (s : State) : Bool :=
  (s.chan ch).st = .ramping && ranOut (s.chan ch).window

/-- An inrush window expires (R17): ON, good-run timer from 0, the claim drops from ICLAIM to RCLAIM
and the queue is examined (R53). -/
def State.expireWindow (ch : Ch) (s : State) : State :=
  let f := feedOf ch
  let c := s.chan ch
  let s1 := s.setChan ch { c with st := .on, window := none, goodRun := some 0 }
  let u := s1.unit f
  (s1.setUnit f { u with sumS := u.sumS - (c.profile.iclaim - c.profile.rclaim) }).examine f

/-- INRUSH_WINDOW_EXPIRY (R17). -/
def execInrushWindowExpiry (ch : Ch) (s : State) : Host.Outcome State Fault Refusal :=
  .next (s.run (whenActive (whenDue (State.windowDue ch) (State.expireWindow ch))))

/-- The good-run timer's limit (R21). -/
def goodRunLimit : Nat := 10000

/-- Whether a channel's good-run timer reaches its limit now (R21). -/
def State.goodRunDue (ch : Ch) (s : State) : Bool :=
  (s.chan ch).st = .on && reached goodRunLimit (s.chan ch).goodRun

/-- The good-run timer reaches 10,000 ms (R21): trip count 0, timer stopped. -/
def State.expireGoodRun (ch : Ch) (s : State) : State :=
  s.setChan ch { s.chan ch with tripCount := 0, goodRun := none }

/-- GOOD_RUN_TIMER_EXPIRY (R21). -/
def execGoodRunTimerExpiry (ch : Ch) (s : State) : Host.Outcome State Fault Refusal :=
  .next (s.run (whenActive (whenDue (State.goodRunDue ch) (State.expireGoodRun ch))))

/-- How many period starts of the channel have come and wait for their latch (R89, log 16). -/
def Channel.startsDue (c : Channel) : Nat :=
  if c.admitted then
    match c.periodTimer with
    | some t => t.starts
    | none => 0
  else 0

/-- Whether a period start of the channel waits for its latch (R89, R90). -/
def State.periodDue (ch : Ch) (s : State) : Bool := 0 < (s.chan ch).startsDue

/-- The channel record after a period start (R90): the latch is made, and the on-part of the new period,
if it has one, falls into the sense interval in progress (R70). -/
def Channel.startPeriod (t : ChannelType) (vavg : Nat) (c : Channel) : Channel :=
  let c' := c.latch t vavg
  { c' with
    periodTimer := c.periodTimer.map fun p => { p with starts := p.starts - 1 }
    conducted := c.conducted || decide (0 < c'.onTime) }

/-- A period start (R90). -/
def State.startPeriod (ch : Ch) (s : State) : State :=
  s.setChan ch ((s.chan ch).startPeriod (typeOf ch) (s.monitor (feedOf ch)).vavg)

/-- PERIOD_START (R90). -/
def execPeriodStart (ch : Ch) (s : State) : Host.Outcome State Fault Refusal :=
  .next (s.run (whenActive (whenDue (State.periodDue ch) (State.startPeriod ch))))

/-! ### Demand entries and clients -/

/-- Whether a client's TIMED entry on a channel has no time left (R41). -/
def State.timedDue (ch : Ch) (cl : Client) (s : State) : Bool :=
  match s.slot ch cl with
  | some (.timed _ remaining _) => remaining = 0
  | _ => false

/-- A TIMED entry expires (R41): removed, the channel recomputed, EXPIRE offered. -/
def State.expireTimed (ch : Ch) (cl : Client) (s : State) : State :=
  (s.removeEntry ch cl).offerEvent (.expire ch cl)

/-- TIMED_EXPIRY (R41). -/
def execTimedExpiry (ch : Ch) (client : Client) (s : State) : Host.Outcome State Fault Refusal :=
  .next (s.run (whenActive (whenDue (State.timedDue ch client) (State.expireTimed ch client))))

/-- Whether a client's silence timer has reached its timeout (R28); WIRED has none. -/
def State.silenceDue (cl : Client) (s : State) : Bool :=
  cl ≠ .wired && (s.client cl).st = .active && reached (s.client cl).timeout (s.client cl).silence

/-- SILENCE_EXPIRY (R28). -/
def execSilenceExpiry (client : Client) (s : State) : Host.Outcome State Fault Refusal :=
  .next (s.run (whenActive (whenDue (State.silenceDue client) fun t => t.expireSilence client)))

/-! ### Wired inputs -/

/-- WIRED_INPUT_SAMPLE (R45): taken in ACTIVE and in SLEEP. -/
def execWiredInputSample (levels : PinLevels) (s : State) : Host.Outcome State Fault Refusal :=
  .next (s.run fun t => t.wiredSample levels)

/-- INPUT_ACTIVATION (R46): the wired sample that makes the input active. -/
def execInputActivation (input : WiredInput) (levels : PinLevels) (s : State) :
    Host.Outcome State Fault Refusal :=
  .next (s.run (whenDue (fun t => t.pinActivates levels (pinOf input))
    fun t => t.wiredSample levels))

/-- INPUT_DEACTIVATION (R47): the wired sample that makes the input inactive. -/
def execInputDeactivation (input : WiredInput) (levels : PinLevels) (s : State) :
    Host.Outcome State Fault Refusal :=
  .next (s.run (whenDue (fun t => t.pinDeactivates levels (pinOf input))
    fun t => t.wiredSample levels))

/-- KEY_CHANGE (R161): the wired sample that changes KEY's debounced level. -/
def execKeyChange (levels : PinLevels) (s : State) : Host.Outcome State Fault Refusal :=
  .next (s.run (whenDue (fun t => t.pinActivates levels .key || t.pinDeactivates levels .key)
    fun t => t.wiredSample levels))

/-! ### Admission -/

/-- The ADMIT_DELAY timer's limit (R66). -/
def admitDelayLimit : Nat := 5000

/-- A channel's entry in its feed's queue, if it stands there. -/
def State.queueEntry (s : State) (ch : Ch) : Option QueueEntry :=
  (s.unit (feedOf ch)).queue.find? fun e => e.ch = ch

/-- A channel's position in its feed's queue, counted from 1 at the head (R66). -/
def State.queuePosition (s : State) (ch : Ch) : Nat :=
  1 + ((s.unit (feedOf ch)).queue.takeWhile fun e => e.ch ≠ ch).length

/-- Whether a queued channel's ADMIT_DELAY timer reaches its limit now (R66). -/
def State.admitDelayDue (ch : Ch) (s : State) : Bool :=
  match s.queueEntry ch with
  | some e => reached admitDelayLimit e.delay
  | none => false

/-- An ADMIT_DELAY timer reaches 5,000 ms (R66): the event is offered and the timer stops. -/
def State.expireAdmitDelay (ch : Ch) (s : State) : State :=
  let f := feedOf ch
  let u := s.unit f
  let cls := match s.queueEntry ch with
    | some e => e.cls
    | none => (s.chan ch).profile.cls
  let s1 := s.setUnit f { u with
    queue := u.queue.map fun e => if e.ch = ch then { e with delay := none } else e }
  s1.offerEvent (.admitDelay ch f cls (s.queuePosition ch) (s.blockLevel f) u.headroom)

/-- ADMIT_DELAY (R66). -/
def execAdmitDelay (ch : Ch) (s : State) : Host.Outcome State Fault Refusal :=
  .next (s.run (whenActive (whenDue (State.admitDelayDue ch) (State.expireAdmitDelay ch))))

/-- Whether a feed's hold has no time left (R65). -/
def State.holdDue (f : Feed) (s : State) : Bool :=
  match (s.unit f).hold with
  | some h => h.remaining = 0
  | none => false

/-- HOLD_EXPIRY (R65). -/
def execHoldExpiry (feed : Feed) (s : State) : Host.Outcome State Fault Refusal :=
  .next (s.run (whenActive (whenDue (State.holdDue feed) fun t => t.endHold feed .expired none)))

/-! ### Feeds -/

/-- FEED_SAMPLE (R129): taken in ACTIVE alone. -/
def execFeedSample (feed : Feed) (voltage current : Nat) (s : State) :
    Host.Outcome State Fault Refusal :=
  .next (s.run (whenActive fun t => t.feedSample feed voltage current))

/-- FEED_STATE_CHANGE (R131): the sample that changes the feed state. -/
def execFeedStateChange (feed : Feed) (voltage current : Nat) (s : State) :
    Host.Outcome State Fault Refusal :=
  .next (s.run (whenActive (whenDue (fun t => t.sampleChangesFeed feed voltage current)
    fun t => t.feedSample feed voltage current)))

/-- The shed step timer's limit (R134). -/
def shedStepLimit : Nat := 200

/-- Whether a feed's shed step timer reaches its limit now (R134). -/
def State.shedStepDue (f : Feed) (s : State) : Bool :=
  (s.monitor f).st = .low && reached shedStepLimit (s.monitor f).shedTimer

/-- A shed step (R134): the timer restarts from 0 and a victim, if there is one, is shed. -/
def State.shedStep (f : Feed) (s : State) : State :=
  (s.setMonitor f { s.monitor f with shedTimer := some 0 }).shedOne f .low

/-- SHED_STEP (R134). -/
def execShedStep (feed : Feed) (s : State) : Host.Outcome State Fault Refusal :=
  .next (s.run (whenActive (whenDue (State.shedStepDue feed) (State.shedStep feed))))

/-- OVERLOAD_SHED (R137): the sample on which the overload counter reaches 1000. -/
def execOverloadShed (feed : Feed) (voltage current : Nat) (s : State) :
    Host.Outcome State Fault Refusal :=
  .next (s.run (whenActive (whenDue (fun t => t.sampleOverloads feed voltage current)
    fun t => t.feedSample feed voltage current)))

/-- RESTORE (R138): the sample on which the restore timer reaches 2000. -/
def execRestore (feed : Feed) (voltage current : Nat) (s : State) :
    Host.Outcome State Fault Refusal :=
  .next (s.run (whenActive (whenDue (fun t => t.sampleRestores feed voltage current)
    fun t => t.feedSample feed voltage current)))

/-! ### Flash groups -/

/-- Whether a group's phase has no time left (R103). -/
def State.phaseDue (g : Group) (phase : Phase) (s : State) : Bool :=
  (s.group g).phase = phase && ranOut (s.group g).timer

/-- ON_PHASE_END (R111). -/
def execOnPhaseEnd (group : Group) (s : State) : Host.Outcome State Fault Refusal :=
  .next (s.run (whenActive (whenDue (State.phaseDue group .onPhase) fun t => t.endOnPhase group)))

/-- Whether the present flash is the last of a client's entry on a channel (R111 step 3). -/
def State.lastFlash (g : Group) (ch : Ch) (cl : Client) (s : State) : Bool :=
  match s.slot ch cl with
  | some e => e.counts g && e.remainingCount ≤ 1
  | none => false

/-- FLASH_DONE (R111): the ON_PHASE end that uses up the entry's count. -/
def execFlashDone (group : Group) (ch : Ch) (client : Client) (s : State) :
    Host.Outcome State Fault Refusal :=
  .next (s.run (whenActive (whenDue
    (fun t => t.phaseDue group .onPhase && t.lastFlash group ch client)
    fun t => t.endOnPhase group)))

/-- OFF_PHASE_END (R109). -/
def execOffPhaseEnd (group : Group) (s : State) : Host.Outcome State Fault Refusal :=
  .next (s.run (whenActive (whenDue (State.phaseDue group .offPhase) fun t => t.endOffPhase group)))

/-! ### Bridges -/

/-- Whether a bridge's stage has no time left (R116). -/
def State.stageDue (br : Bridge) (st : BridgeState) (s : State) : Bool :=
  (s.bridge br).st = st && ranOut (s.bridge br).stageTimer

/-- The bridge enters DRIVE by the owner's entry as it stands (R118, R122). An owner's entry always
stands on a bridge that is not IDLE; without one nothing is read and nothing changes (log 26). -/
def State.beginDrive (br : Bridge) (s : State) : State :=
  match s.ownerEntry br with
  | some (_, dir, duration) => s.setBridge br ((s.bridge br).enterDrive dir duration)
  | none => s

/-- DEAD_BEFORE_DRIVE_EXPIRY (R118). -/
def execDeadBeforeDriveExpiry (bridge : Bridge) (s : State) : Host.Outcome State Fault Refusal :=
  .next (s.run (whenActive (whenDue (State.stageDue bridge (.dead .beforeDrive))
    (State.beginDrive bridge))))

/-- Whether a bridge's drive timer has run out in DRIVE (R119). -/
def State.driveDue (br : Bridge) (s : State) : Bool :=
  (s.bridge br).st = .drive && ranOut (s.bridge br).driveTimer

/-- The drive timer runs out (R119): TIME, or MAXTIME with the open-ended mark. -/
def State.expireDrive (br : Bridge) (s : State) : State :=
  s.endDrive br (if (s.bridge br).openEnded then .maxtime else .time)

/-- DRIVE_TIMER_EXPIRY (R119). -/
def execDriveTimerExpiry (bridge : Bridge) (s : State) : Host.Outcome State Fault Refusal :=
  .next (s.run (whenActive (whenDue (State.driveDue bridge) (State.expireDrive bridge))))

/-- STALL_END (R120): the sample on which the stall counter reaches STALLT. -/
def execStallEnd (bridge : Bridge) (rms : Nat) (onCur : Option Nat) (s : State) :
    Host.Outcome State Fault Refusal :=
  .next (s.run (whenActive (whenDue (fun t => t.sampleStalls bridge rms onCur)
    fun t => t.senseSample (bridgeChannel bridge) rms onCur)))

/-- The DEAD stage before brake runs out (R121): BRAKE with both low sides on, for BRAKET. -/
def State.beginBrake (br : Bridge) (s : State) : State :=
  s.setBridge br { s.bridge br with
    st := .brake, stageTimer := some (s.bridgeProfile br).braket, rest := none }

/-- DEAD_BEFORE_BRAKE_EXPIRY (R121). -/
def execDeadBeforeBrakeExpiry (bridge : Bridge) (s : State) : Host.Outcome State Fault Refusal :=
  .next (s.run (whenActive (whenDue (State.stageDue bridge (.dead .beforeBrake))
    (State.beginBrake bridge))))

/-- BRAKE runs out (R121): DEAD after brake with every leg off, for DEADT. -/
def State.endBrake (br : Bridge) (s : State) : State :=
  s.setBridge br { s.bridge br with
    st := .dead .afterBrake, stageTimer := some (s.bridgeProfile br).deadt
    rest := s.restAfterLegsOff br }

/-- BRAKE_EXPIRY (R121). -/
def execBrakeExpiry (bridge : Bridge) (s : State) : Host.Outcome State Fault Refusal :=
  .next (s.run (whenActive (whenDue (State.stageDue bridge .brake) (State.endBrake bridge))))

/-- DEAD after brake runs out (R121, R122): a re-drive if its mark is set; otherwise IDLE, the entry
removed and the owner cleared. DEADT has passed with every leg off, so the rest timer has reached it
(R125). -/
def State.endDeadAfterBrake (br : Bridge) (s : State) : State :=
  if (s.bridge br).redrive then State.beginDrive br s
  else (s.setBridge br { s.bridge br with rest := none }).finishDrive br

/-- DEAD_AFTER_BRAKE_EXPIRY (R121, R122). -/
def execDeadAfterBrakeExpiry (bridge : Bridge) (s : State) : Host.Outcome State Fault Refusal :=
  .next (s.run (whenActive (whenDue (State.stageDue bridge (.dead .afterBrake))
    (State.endDeadAfterBrake bridge))))

/-- Whether a bridge's rest timer has reached DEADT (R125). -/
def State.restDue (br : Bridge) (s : State) : Bool :=
  reached (s.bridgeProfile br).deadt (s.bridge br).rest

/-- The rest timer reaches DEADT and stops (R125); a bridge that is IDLE at BRAKE closes its low sides
by that (`State.legs`). -/
def State.expireRest (br : Bridge) (s : State) : State :=
  s.setBridge br { s.bridge br with rest := none }

/-- REST_TIMER_EXPIRY (R125). -/
def execRestTimerExpiry (bridge : Bridge) (s : State) : Host.Outcome State Fault Refusal :=
  .next (s.run (whenActive (whenDue (State.restDue bridge) (State.expireRest bridge))))

/-! ### Ports -/

/-- Whether a port's status timer has reached its interval (R149). -/
def State.statusDue (p : Port) (s : State) : Bool :=
  (s.port p).st = .active && reached (s.port p).interval (s.port p).statusTimer

/-- STATUS_ROUND (R149). -/
def execStatusRound (port : Port) (s : State) : Host.Outcome State Fault Refusal :=
  .next (s.run (whenActive (whenDue (State.statusDue port) fun t => t.restartStatus port)))

/-- TRANSMIT_COMPLETE (R146): in ACTIVE and in SLEEP (R162). -/
def execTransmitComplete (port : Port) (s : State) : Host.Outcome State Fault Refusal :=
  .next (s.run fun t => t.departure port)

/-- The pending read completes (R153): at once if three slots are free, else by the departure that
frees the third. -/
def State.completeRead (p : Port) (s : State) : State :=
  let r := s.port p
  if r.read = none ∨ r.st ≠ .active then s
  else if 3 ≤ r.free then s.checkRead p
  else if r.queue.length ≤ 10 then s.departure p
  else s

/-- READ_COMPLETION (R153). -/
def execReadCompletion (port : Port) (s : State) : Host.Outcome State Fault Refusal :=
  .next (s.run (State.completeRead port))

/-- TRANSMIT_ERROR (R154, R146). -/
def execTransmitError (port : Port) (s : State) : Host.Outcome State Fault Refusal :=
  .next (s.run fun t => t.transmitError port)

/-- Whether the next error takes the port BUS_OFF: 8 more pass 255 (R154). -/
def State.busOffDue (p : Port) (s : State) : Bool := 255 < (s.port p).txErrors + 8

/-- BUS_OFF (R154): the error that takes the count past 255. -/
def execBusOff (port : Port) (s : State) : Host.Outcome State Fault Refusal :=
  .next (s.run (whenDue (State.busOffDue port) fun t => t.transmitError port))

/-- The recovery timer's limit (R155). -/
def recoveryLimit : Nat := 200

/-- Whether a BUS_OFF port's recovery timer has reached its limit (R155). -/
def State.recoveryDue (p : Port) (s : State) : Bool :=
  (s.port p).st = .busOff && reached recoveryLimit (s.port p).recovery

/-- BUS_RECOVERY (R155): in ACTIVE and in SLEEP. -/
def execBusRecovery (port : Port) (s : State) : Host.Outcome State Fault Refusal :=
  .next (s.run (whenDue (State.recoveryDue port) fun t => t.recoverPort port))

/-- BUS_ACTIVITY (R155): in ACTIVE and in SLEEP. -/
def execBusActivity (port : Port) (s : State) : Host.Outcome State Fault Refusal :=
  .next (s.run fun t => t.seeActivity port)

/-! ### Sleep and wake -/

/-- SLEEP_ENTRY (R161): the four conditions hold. -/
def execSleepEntry (s : State) : Host.Outcome State Fault Refusal :=
  .next (s.run (whenActive (whenDue State.sleepReady State.enterSleep)))

/-- Whether something wakes the part (R163): a frame that passes tests 1 and 2 of R142 on an ACTIVE
port, or a wired sample that makes a pin active. -/
def State.wakes (cause : WakeCause) (s : State) : Bool :=
  match cause with
  | .frame p f => (s.port p).st = .active && (frameClient s.zone f).isSome
  | .input levels => s.anyActivates levels

/-- WAKE (R163): the wake's one change; the cause is then taken as a command of its own. A WAKE by an
input samples no pin, so its status rounds carry the level as it was before that sample (log 35). -/
def execWake (cause : WakeCause) (s : State) : Host.Outcome State Fault Refusal :=
  .next (s.run (whenDue (State.wakes cause) State.awake))

end Sys2Proof.Machine
end

