-- ==== Sys2Proof/Machine/Tick.lean ====
section
/-!
DEFINITION. One millisecond without a waiting command (log 1): every timer whose owner runs moves by
1 ms (00, "Time and events"), and the expiries that fall due are queued (log 2). Samples are commands
from outside and are not made here.
-/
namespace Sys2Proof.Machine

/-! ### What moves -/

/-- A period timer after 1,000 µs (R89): the position goes round within PERIOD, and each period that has
begun on the way is a period start that waits for its latch (log 16). -/
def PeriodTimer.tick (period : Nat) (t : PeriodTimer) : PeriodTimer :=
  { pos := (t.pos + 1000) % period, starts := t.starts + (t.pos + 1000) / period }

/-- A channel's timers (R17, R21, R89), and whether its output conducted as the millisecond began
(R70, log 36). A bridge has no period timer (R100). -/
def Channel.tick (conducts : Bool) (c : Channel) : Channel :=
  { c with
    window := countDown c.window
    goodRun := countUp goodRunLimit c.goodRun
    periodTimer := c.periodTimer.map fun t => t.tick (c.profile.period.getD 0)
    conducted := conducts }

/-- A TIMED entry's countdown (R41): each tenth millisecond takes one step of 10 ms. -/
def Entry.tick : Entry → Entry
  | .timed d remaining ms =>
    if ms + 1 < 10 then .timed d remaining (ms + 1) else .timed d (remaining - 1) 0
  | e => e

/-- The slots of one channel. -/
def tickSlots (p : PerClient (Option Entry)) : PerClient (Option Entry) :=
  p.map fun e => e.map Entry.tick

/-- A client's silence timer (R28). -/
def ClientRecord.tick (r : ClientRecord) : ClientRecord :=
  { r with silence := countUp r.timeout r.silence }

/-- An admission unit's ADMIT_DELAY timers (R66) and hold (R63). -/
def Admission.tick (u : Admission) : Admission :=
  { u with
    queue := u.queue.map fun e => { e with delay := countUp admitDelayLimit e.delay }
    hold := u.hold.map fun h => { h with remaining := h.remaining - 1 } }

/-- A feed monitor's shed step timer (R134); its other counters move with samples. -/
def Monitor.tick (m : Monitor) : Monitor :=
  { m with shedTimer := countUp shedStepLimit m.shedTimer }

/-- A flash group's phase timer (R103). -/
def FlashGroup.tick (r : FlashGroup) : FlashGroup := { r with timer := countDown r.timer }

/-- A bridge's timers (R116, R118, R125) with its DEADT: the driven time counts in DRIVE, the rest
timer while every leg is off. -/
def BridgeRecord.tick (deadt : Nat) (r : BridgeRecord) : BridgeRecord :=
  { r with stageTimer := countDown r.stageTimer, driveTimer := countDown r.driveTimer
           driven := if r.st = .drive then r.driven + 1 else r.driven
           rest := countUp deadt r.rest }

/-- A port's status timer (R149), in ACTIVE. -/
def PortRecord.tickStatus (r : PortRecord) : PortRecord :=
  { r with statusTimer := countUp r.interval r.statusTimer }

/-- A port's link layer, in ACTIVE and in SLEEP: the recovery timer of a BUS_OFF port (R155), and a
fresh receive error count on an ACTIVE one (R142, log 7). -/
def PortRecord.tickLink (fresh : Nat) (r : PortRecord) : PortRecord :=
  { r with recovery := countUp recoveryLimit r.recovery
           rxErrors := if r.st = .active then fresh else r.rxErrors }

/-- The sleep quiet timer's limit (R160). -/
def quietLimit : Nat := 5000

/-- The timers that run in ACTIVE alone. -/
def State.tickActive (s : State) : State :=
  { s with
    quiet := countUp quietLimit s.quiet
    chans := Vector.ofFn fun ch => (s.chan ch).tick (s.conducts ch)
    demand := mapChannels tickSlots s.demand
    clients := s.clients.map ClientRecord.tick
    adm := s.adm.map Admission.tick
    mon := s.mon.map Monitor.tick
    groups := s.groups.map FlashGroup.tick
    bridges := ⟨s.bridges.a.tick (s.bridgeProfile .a).deadt,
                s.bridges.b.tick (s.bridgeProfile .b).deadt⟩
    ports := s.ports.map PortRecord.tickStatus }

/-- The link layers, which run in ACTIVE and in SLEEP (R162). -/
def State.tickLinks (s : State) : State :=
  { s with
    ports := ⟨s.ports.a.tickLink (Config.receiveErrorCount s.freeIndex .a),
              s.ports.b.tickLink (Config.receiveErrorCount s.freeIndex .b)⟩
    freeIndex := s.freeIndex + 1 }

/-! ### What falls due -/

/-- A command, if it is due. -/
def ifDue (due : Bool) (c : Instr) : List Instr := if due then [c] else []

/-- The expiries of one channel. -/
def State.channelDue (s : State) (ch : Ch) : List Instr :=
  ifDue (s.windowDue ch) (.inrushWindowExpiry ch)
    ++ ifDue (s.goodRunDue ch) (.goodRunTimerExpiry ch)
    ++ List.replicate (s.chan ch).startsDue (.periodStart ch)

/-- The expiries of one feed. -/
def State.feedDue (s : State) (f : Feed) : List Instr :=
  ifDue (s.holdDue f) (.holdExpiry f) ++ ifDue (s.shedStepDue f) (.shedStep f)

/-- The ends of phases of one group. -/
def State.groupDue (s : State) (g : Group) : List Instr :=
  ifDue (s.phaseDue g .onPhase) (.onPhaseEnd g) ++ ifDue (s.phaseDue g .offPhase) (.offPhaseEnd g)

/-- The expiries of one bridge. -/
def State.bridgeDue (s : State) (br : Bridge) : List Instr :=
  ifDue (s.stageDue br (.dead .beforeDrive)) (.deadBeforeDriveExpiry br)
    ++ ifDue (s.driveDue br) (.driveTimerExpiry br)
    ++ ifDue (s.stageDue br (.dead .beforeBrake)) (.deadBeforeBrakeExpiry br)
    ++ ifDue (s.stageDue br .brake) (.brakeExpiry br)
    ++ ifDue (s.stageDue br (.dead .afterBrake)) (.deadAfterBrakeExpiry br)
    ++ ifDue (s.restDue br) (.restTimerExpiry br)

/-- The expiries of the blocks that run in ACTIVE alone, in the model's order (log 2). -/
def State.activeDue (s : State) : List Instr :=
  allChannels.flatMap s.channelDue
    ++ allSlots.flatMap (fun x => ifDue (s.timedDue x.1 x.2) (.timedExpiry x.1 x.2))
    ++ Client.all.flatMap (fun cl => ifDue (s.silenceDue cl) (.silenceExpiry cl))
    ++ allChannels.flatMap (fun ch => ifDue (s.admitDelayDue ch) (.admitDelay ch))
    ++ s.feedDue .a ++ s.feedDue .b ++ s.groupDue .a ++ s.groupDue .b
    ++ s.bridgeDue .a ++ s.bridgeDue .b
    ++ ifDue (s.statusDue .a) (.statusRound .a) ++ ifDue (s.statusDue .b) (.statusRound .b)

/-- The ends of bus-off. -/
def State.linksDue (s : State) : List Instr :=
  ifDue (s.recoveryDue .a) (.busRecovery .a) ++ ifDue (s.recoveryDue .b) (.busRecovery .b)

/-- Whether the quiet timer reaches 5,000 ms with this tick (R160, R161). -/
def quietReached (before after : State) : Bool :=
  !reached quietLimit before.quiet && reached quietLimit after.quiet

/-! ### The tick -/

/-- One millisecond of a part with an empty queue. In SLEEP only the link layers run (R162); without
power nothing does (R159). -/
def State.tick (s : State) : State :=
  if s.powered then
    match s.part with
    | .active =>
      let t := s.tickActive.tickLinks
      { t with pending := t.activeDue ++ t.linksDue ++ ifDue (quietReached s t) .sleepEntry }
    | .sleep =>
      let t := s.tickLinks
      { t with pending := t.linksDue }
  else s

end Sys2Proof.Machine
end

