-- ==== Sys2Proof/Machine/Dispatch.lean ====
section
/-!
DEFINITION. The meaning of each command, one arm for each constructor of Instr.
-/
namespace Sys2Proof.Machine

/-- A command's effect on everything but the queue. -/
def exec (i : Instr) (s : State) : Host.Outcome State Fault Refusal :=
  match i with
  | .powerOnReset zone => Sys2Proof.Machine.execPowerOnReset zone s
  | .vkeepLoss => Sys2Proof.Machine.execVkeepLoss s
  | .present src => Sys2Proof.Machine.execPresent src s
  | .setSteady src ch duty => Sys2Proof.Machine.execSetSteady src ch duty s
  | .setTimed src ch duty duration => Sys2Proof.Machine.execSetTimed src ch duty duration s
  | .setFlash src ch duty group count => Sys2Proof.Machine.execSetFlash src ch duty group count s
  | .setInhibit src ch => Sys2Proof.Machine.execSetInhibit src ch s
  | .drive src ch direction duration => Sys2Proof.Machine.execDrive src ch direction duration s
  | .release src ch => Sys2Proof.Machine.execRelease src ch s
  | .clear src ch => Sys2Proof.Machine.execClear src ch s
  | .hold src feed level duration => Sys2Proof.Machine.execHold src feed level duration s
  | .unhold src feed => Sys2Proof.Machine.execUnhold src feed s
  | .flashCfg src group period onShare => Sys2Proof.Machine.execFlashCfg src group period onShare s
  | .profileA src ch cls tau rated short => Sys2Proof.Machine.execProfileA src ch cls tau rated short s
  | .profileB src ch ishort window retries openThr => Sys2Proof.Machine.execProfileB src ch ishort window retries openThr s
  | .profileC src ch iclaim rclaim silence => Sys2Proof.Machine.execProfileC src ch iclaim rclaim silence s
  | .profileD src ch period vt => Sys2Proof.Machine.execProfileD src ch period vt s
  | .profileE src ch rights input mode duty => Sys2Proof.Machine.execProfileE src ch rights input mode duty s
  | .profileF src ch stall stallt braket deadt idle => Sys2Proof.Machine.execProfileF src ch stall stallt braket deadt idle s
  | .feedCfg src feed peak cont vshed => Sys2Proof.Machine.execFeedCfg src feed peak cont vshed s
  | .clientCfg src client timeout => Sys2Proof.Machine.execClientCfg src client timeout s
  | .statusCfg src port interval => Sys2Proof.Machine.execStatusCfg src port interval s
  | .read src ch => Sys2Proof.Machine.execRead src ch s
  | .reset src => Sys2Proof.Machine.execReset src s
  | .frameIgnored port f => Sys2Proof.Machine.execFrameIgnored port f s
  | .frameRefusedByPort port f => Sys2Proof.Machine.execFrameRefusedByPort port f s
  | .senseSample ch rms onCur => Sys2Proof.Machine.execSenseSample ch rms onCur s
  | .openSet ch rms onCur => Sys2Proof.Machine.execOpenSet ch rms onCur s
  | .openClear ch rms onCur => Sys2Proof.Machine.execOpenClear ch rms onCur s
  | .inrushWindowExpiry ch => Sys2Proof.Machine.execInrushWindowExpiry ch s
  | .goodRunTimerExpiry ch => Sys2Proof.Machine.execGoodRunTimerExpiry ch s
  | .periodStart ch => Sys2Proof.Machine.execPeriodStart ch s
  | .timedExpiry ch client => Sys2Proof.Machine.execTimedExpiry ch client s
  | .silenceExpiry client => Sys2Proof.Machine.execSilenceExpiry client s
  | .inputActivation input levels => Sys2Proof.Machine.execInputActivation input levels s
  | .inputDeactivation input levels => Sys2Proof.Machine.execInputDeactivation input levels s
  | .keyChange levels => Sys2Proof.Machine.execKeyChange levels s
  | .admitDelay ch => Sys2Proof.Machine.execAdmitDelay ch s
  | .holdExpiry feed => Sys2Proof.Machine.execHoldExpiry feed s
  | .feedSample feed voltage current => Sys2Proof.Machine.execFeedSample feed voltage current s
  | .feedStateChange feed voltage current => Sys2Proof.Machine.execFeedStateChange feed voltage current s
  | .shedStep feed => Sys2Proof.Machine.execShedStep feed s
  | .overloadShed feed voltage current => Sys2Proof.Machine.execOverloadShed feed voltage current s
  | .restore feed voltage current => Sys2Proof.Machine.execRestore feed voltage current s
  | .onPhaseEnd group => Sys2Proof.Machine.execOnPhaseEnd group s
  | .flashDone group ch client => Sys2Proof.Machine.execFlashDone group ch client s
  | .offPhaseEnd group => Sys2Proof.Machine.execOffPhaseEnd group s
  | .deadBeforeDriveExpiry bridge => Sys2Proof.Machine.execDeadBeforeDriveExpiry bridge s
  | .driveTimerExpiry bridge => Sys2Proof.Machine.execDriveTimerExpiry bridge s
  | .stallEnd bridge rms onCur => Sys2Proof.Machine.execStallEnd bridge rms onCur s
  | .deadBeforeBrakeExpiry bridge => Sys2Proof.Machine.execDeadBeforeBrakeExpiry bridge s
  | .brakeExpiry bridge => Sys2Proof.Machine.execBrakeExpiry bridge s
  | .deadAfterBrakeExpiry bridge => Sys2Proof.Machine.execDeadAfterBrakeExpiry bridge s
  | .restTimerExpiry bridge => Sys2Proof.Machine.execRestTimerExpiry bridge s
  | .statusRound port => Sys2Proof.Machine.execStatusRound port s
  | .transmitComplete port => Sys2Proof.Machine.execTransmitComplete port s
  | .readCompletion port => Sys2Proof.Machine.execReadCompletion port s
  | .transmitError port => Sys2Proof.Machine.execTransmitError port s
  | .busOff port => Sys2Proof.Machine.execBusOff port s
  | .busRecovery port => Sys2Proof.Machine.execBusRecovery port s
  | .sleepEntry => Sys2Proof.Machine.execSleepEntry s
  | .wake cause => Sys2Proof.Machine.execWake cause s
  | .wiredInputSample levels => Sys2Proof.Machine.execWiredInputSample levels s
  | .busActivity port => Sys2Proof.Machine.execBusActivity port s

end Sys2Proof.Machine
end

