-- ==== Sys2Proof/Machine/Step.lean ====
section
/-!
DEFINITION. One step of the part: the command at the front of the queue, or one millisecond.
-/
namespace Sys2Proof.Machine

/-- One step (95: each step whole and indivisible): the command at the front of the queue is taken
with the queue's rest; on an empty queue a millisecond passes (log 1). -/
def step (s : State) : Host.Outcome State Fault Refusal :=
  match s.pending with
  | c :: rest => exec c { s with pending := rest }
  | [] => .next s.tick

/-- The state with the command that a word spells put at the front of the queue. No row of the table
gives bits, so no word spells one and the state is unchanged (log 23). -/
def State.withFetchWord (s : State) (nbits w : Nat) : State :=
  match decodeTableWord nbits w with
  | some c => { s with pending := c :: s.pending }
  | none => s

end Sys2Proof.Machine
end

