-- ==== Sys2Proof/WellFormed.lean ====
section
/-!
DEFINITION. Which commands can come about on the part's pins: a request on a port its client may use, a
frame that a CAN bus can carry, a sample within its converter's range, an expiry of a timer that exists.
-/
namespace Sys2Proof

open Sys2Proof.Machine

/-- A request comes from a client on a port on which its frames are taken (R27). -/
def Source.wellFormed (src : Source) : Bool := takesOn src.client src.port

/-- A classical CAN frame: an 11-bit or a 29-bit identifier and at most eight data bytes. -/
def CanFrame.wellFormed (f : CanFrame) : Bool :=
  f.id < (if f.extended then 2 ^ 29 else 2 ^ 11) && f.data.length ≤ 8

/-- A sample within the full scale of the channel's type, with an RMS current of 0 when the output did
not conduct (R69). -/
def sampleWellFormed (ch : Ch) (rms : Nat) (onCur : Option Nat) : Bool :=
  rms ≤ (typeOf ch).fullScale &&
    match onCur with
    | some o => o ≤ (typeOf ch).fullScale
    | none => rms = 0

/-- A feed sample within its converter's range (R129). -/
def feedSampleWellFormed (voltage current : Nat) : Bool := voltage ≤ 450 && current ≤ 4000

/-- Whether a command can come about. -/
def Instr.wellFormed (i : Instr) : Bool :=
  match requestBytes i with
  | some (src, _) => src.wellFormed
  | none =>
    match i with
    | .frameIgnored _ f => f.wellFormed
    | .frameRefusedByPort _ f => f.wellFormed && (portRefusal f.data).isSome
    | .senseSample ch rms onCur => sampleWellFormed ch rms onCur
    | .openSet ch rms onCur => sampleWellFormed ch rms onCur
    | .openClear ch rms onCur => sampleWellFormed ch rms onCur
    | .stallEnd br rms onCur => sampleWellFormed (bridgeChannel br) rms onCur
    | .periodStart ch => typeOf ch ≠ .bridge
    | .timedExpiry ch _ => typeOf ch ≠ .bridge
    | .flashDone _ ch _ => typeOf ch = .lamp
    | .silenceExpiry client => client ≠ .wired
    | .inputActivation input levels => levelOf levels (pinOf input)
    | .inputDeactivation input levels => !levelOf levels (pinOf input)
    | .feedSample _ v c => feedSampleWellFormed v c
    | .feedStateChange _ v c => feedSampleWellFormed v c
    | .overloadShed _ v c => feedSampleWellFormed v c
    | .restore _ v c => feedSampleWellFormed v c
    | .wake (.frame _ f) => f.wellFormed && !f.remote && !f.extended
    | _ => true

end Sys2Proof
end

