-- ==== Sys2Proof/Safety.lean ====
section
/-!
DEFINITION. What the claims about the part speak of: the conditions under which a command is taken, and
the invariants that a safe part keeps. None of them is assumed by the machine.
-/
namespace Sys2Proof.Machine

/-! ### When a command is taken -/

/-- The part has power and is ACTIVE. -/
def State.Running (s : State) : Prop := s.powered = true ∧ s.part = .active

/-- The part has power, is ACTIVE, and the port takes frames from the client (R27, R142). -/
def State.Takes (s : State) (src : Source) : Prop :=
  s.Running ∧ (s.port src.port).st = .active ∧ takesOn src.client src.port = true

/-- The state in which a taken request is judged: its sender has been refreshed (R27). -/
def State.heard (s : State) (src : Source) : State := s.refresh src.client src.port

/-- A request accepted with an effect: the effect on the refreshed state, the quiet timer from 0 (R160),
the rest conditions handed over (R161). -/
def State.accepted (s : State) (src : Source) (effect : State → State) : State :=
  State.settle s (effect (s.heard src)).noteAccepted

/-- A request refused: the refreshed state with the REPLY offered (R144). -/
def State.refusedWith (s : State) (src : Source) (kind byte1 : Byte) (code : RefusalCode) : State :=
  State.settle s ((s.heard src).offerReply src.port kind src.client code byte1)

/-- A byte names a channel. -/
def NamesChannel (b : Byte) (ch : Ch) : Prop := b.toNat = ch.val

/-- A byte names a feed, a port or a group: 0 is A (or 0), 1 is B (or 1). -/
def NamesSide (b : Byte) (x : Side) : Prop := b.toNat = x.code

/-! ### Rights (R33) -/

/-- The client may use the power-giving kinds on the channel. -/
def State.MayDemand (s : State) (cl : Client) (ch : Ch) : Prop :=
  let p := (s.chan ch).profile
  match cl with
  | .wired => False
  | .body => p.rightBody = .demand ∨ p.rightBody = .both
  | .engine => p.rightEngine = .demand ∨ p.rightEngine = .both
  | .climate => p.rightClimate = .demand ∨ p.rightClimate = .both
  | .service => True

/-- The client may use SET_INHIBIT on the channel; SERVICE may not. -/
def State.MayInhibit (s : State) (cl : Client) (ch : Ch) : Prop :=
  let p := (s.chan ch).profile
  match cl with
  | .wired => False
  | .body => p.rightBody = .inhibit ∨ p.rightBody = .both
  | .engine => p.rightEngine = .inhibit ∨ p.rightEngine = .both
  | .climate => p.rightClimate = .inhibit ∨ p.rightClimate = .both
  | .service => False

/-- The client may use CLEAR on the channel. -/
def State.MayClear (s : State) (cl : Client) (ch : Ch) : Prop :=
  let p := (s.chan ch).profile
  match cl with
  | .wired => False
  | .body => p.rightBody ≠ .none
  | .engine => p.rightEngine ≠ .none
  | .climate => p.rightClimate ≠ .none
  | .service => True

/-! ### What a change of demands leaves as it was -/

/-- What a channel has learned and been configured with: profile, DEFAULT flag, Q, trip count and record,
OPEN flag, latest currents. No change of its demand, claim or place in the queue touches them. -/
def Channel.SameLearned (c d : Channel) : Prop :=
  d.profile = c.profile ∧ d.default = c.default ∧ d.q = c.q ∧ d.tripCount = c.tripCount ∧
    d.trip = c.trip ∧ d.openFlag = c.openFlag ∧ d.lastRms = c.lastRms ∧ d.lastOn = c.lastOn

/-- The blocks that a change of demands never touches, and what the channels keep through it. -/
def State.SameBeyondDemands (s t : State) : Prop :=
  t.powered = s.powered ∧ t.zone = s.zone ∧ t.part = s.part ∧ t.clients = s.clients ∧
    t.pins = s.pins ∧ t.placed = s.placed ∧ t.mon = s.mon ∧ t.freeIndex = s.freeIndex ∧
    t.pending = s.pending ∧ ∀ ch : Ch, (s.chan ch).SameLearned (t.chan ch)

/-- A channel's controller holds the three values of its entries (R43). -/
def State.HandedOver (s : State) (ch : Ch) : Prop :=
  (s.chan ch).pending = (s.combined ch).duty ∧ (s.chan ch).wish = (s.combined ch).wants ∧
    (s.chan ch).inhibited = (s.combined ch).inhibited

/-- A channel keeps its wish, its pending duty and its inhibited value. -/
def State.SameWish (s t : State) (ch : Ch) : Prop :=
  (t.chan ch).pending = (s.chan ch).pending ∧ (t.chan ch).wish = (s.chan ch).wish ∧
    (t.chan ch).inhibited = (s.chan ch).inhibited

/-! ### Invariants -/

/-- Each port's transmit queue holds at most 12 frames (R146). -/
def State.QueuesBounded (s : State) : Prop := ∀ p : Port, (s.port p).queue.length ≤ 12

/-- Every channel's heat value and rated current are in range (R74, R4). -/
def State.HeatInRange (s : State) : Prop :=
  ∀ ch : Ch, (s.chan ch).q ≤ 1024000000 ∧ (s.chan ch).profile.rated ≤ (typeOf ch).ratedMax

/-- The mode controller's rest conditions are the channels' and the inputs' (R161). -/
def State.RestHanded (s : State) : Prop :=
  s.restCh = mapChannels Channel.atRest s.chans ∧
    s.restIn = ⟨s.level .brake, s.level .hazard, s.level .reverse, s.level .key⟩

/-- A sleeping part has its rest conditions true and its quiet timer stopped (R161, 10 section 10.5). -/
def State.SleepsAtRest (s : State) : Prop :=
  s.RestHanded ∧ (s.part = .sleep →
    s.quiet = none ∧ s.restIn = ⟨false, false, false, false⟩ ∧ ∀ ch : Ch, (s.chan ch).atRest = true)

/-- The duty an entry may ask for, whatever its phase; a DRIVE entry's is 1000 (R35, R42). -/
def Entry.fullDuty : Entry → Nat
  | .steady d _ => d
  | .timed d _ _ => d
  | .flash d _ _ _ _ _ => d
  | .drive _ _ _ => 1000
  | .inhibit => 0

/-- Every duty that the part holds is a per-mille value (R35, R37, R97). -/
def State.DutiesInRange (s : State) : Prop :=
  ∀ ch : Ch, (s.chan ch).pending ≤ 1000 ∧ (s.chan ch).applied ≤ 1000 ∧
    (s.chan ch).profile.bindDuty ≤ 1000 ∧
    ∀ cl : Client, ∀ e, s.slot ch cl = some e → e.fullDuty ≤ 1000

/-- A lamp, heater or fan has its PERIOD in its type's range (R7), and its period timer runs exactly while it
is RAMPING or ON, at a position below PERIOD (R89), with an on-time of at most PERIOD (R95); a bridge has
none of these (R100). In every state but RAMPING and ON the applied duty and the on-time are 0 (R94). -/
def State.PeriodsKept (s : State) : Prop :=
  ∀ ch : Ch,
    let c := s.chan ch
    (c.admitted = false → c.applied = 0 ∧ c.onTime = 0) ∧
    match (typeOf ch).periodRange with
    | none => c.profile.period = none ∧ c.periodTimer = none
    | some range => ∃ period, c.profile.period = some period ∧ range.1 ≤ period ∧ period ≤ range.2 ∧
      c.onTime ≤ period ∧
      match c.periodTimer with
      | none => c.admitted = false
      | some t => c.admitted = true ∧ t.pos < period

/-- A feed's queue holds WAITING channels of the feed alone, of their classes 1 to 3, each at most once,
in the order of class; and every WAITING channel of the feed stands in it (R54). -/
def State.QueueKept (s : State) (f : Feed) : Prop :=
  (∀ e ∈ (s.unit f).queue, feedOf e.ch = f ∧ (s.chan e.ch).st = .waiting ∧
    e.cls = (s.chan e.ch).profile.cls ∧ 1 ≤ e.cls ∧ e.cls ≤ 3) ∧
  ((s.unit f).queue.map fun e => e.ch).Nodup ∧
  (s.unit f).queue.Pairwise (fun x y => x.cls ≤ y.cls) ∧
  ∀ ch : Ch, feedOf ch = f → (s.chan ch).st = .waiting →
    ∃ e ∈ (s.unit f).queue, e.ch = ch

/-- The run claim a channel holds on its feed (R53). -/
def Channel.runClaim (c : Channel) : Nat := if c.admitted then c.profile.rclaim else 0

/-- A feed's sums S and R are the sums of the claims its channels hold (R53). -/
def State.SumsKept (s : State) (f : Feed) : Prop :=
  (s.unit f).sumS = ((channelsOf f).map fun ch => (s.chan ch).presentClaim).sum ∧
  (s.unit f).sumR = ((channelsOf f).map fun ch => (s.chan ch).runClaim).sum

/-- The admission units agree with the channels: queues and sums, with the run claim of a profile at most
its inrush claim (R6) and its class at most 3 (R4). -/
def State.AdmissionKept (s : State) : Prop :=
  (∀ f : Feed, s.QueueKept f ∧ s.SumsKept f) ∧
  ∀ ch : Ch, (s.chan ch).profile.rclaim ≤ (s.chan ch).profile.iclaim ∧
    (s.chan ch).profile.cls ≤ 3

/-- A trip count never exceeds RETRIES plus one, and a channel whose count exceeds RETRIES is LOCKED
(R18). -/
def State.TripsBounded (s : State) : Prop :=
  ∀ ch : Ch, (s.chan ch).tripCount ≤ (s.chan ch).profile.retries ∨
    ((s.chan ch).tripCount = (s.chan ch).profile.retries + 1 ∧ (s.chan ch).st = .locked)

/-- On each feed the present claims of the RAMPING and ON channels of classes 1 to 3 sum to no more than
PEAK, and their run claims to no more than CONT (R59). -/
def State.BudgetsKept (s : State) : Prop :=
  ∀ f : Feed,
    let queued := (channelsOf f).filter fun ch => 1 ≤ (s.chan ch).profile.cls
    (queued.map fun ch => (s.chan ch).presentClaim).sum ≤ (s.unit f).peak ∧
      (queued.map fun ch => (s.chan ch).runClaim).sum ≤ (s.unit f).cont

/-- An entry that is a DRIVE. -/
def Entry.isDrive : Entry → Bool
  | .drive _ _ _ => true
  | _ => false

/-- DRIVE entries stand on bridge channels alone, and a client's stands there exactly while the client is
the bridge's owner (R35, R117), which WIRED never is (R39); a bridge channel is bound to no input and
gives no INHIBIT right (R8), so that nothing but its sequencer takes the entry away. -/
def State.OwnersKept (s : State) : Prop :=
  (∀ ch : Ch, ∀ cl : Client, bridgeOf ch = none →
    ((s.slot ch cl).map Entry.isDrive).getD false = false) ∧
  ∀ br : Bridge,
    let p := (s.chan (bridgeChannel br)).profile
    (∀ cl : Client, ((s.slot (bridgeChannel br) cl).map Entry.isDrive).getD false =
      decide ((s.bridge br).owner = some cl)) ∧
    (s.bridge br).owner ≠ some .wired ∧ p.bindInput = none ∧
    ∀ r ∈ [p.rightBody, p.rightEngine, p.rightClimate], r = .none ∨ r = .demand

/-- A channel that is OFF has no wish, and one that waits, is admitted, is shed or is suspended has one
(R12, R13, R16); TRIPPED and LOCKED record either. -/
def State.WishesKept (s : State) : Prop :=
  ∀ ch : Ch, match (s.chan ch).st with
    | .off => (s.chan ch).wish = false
    | .tripped => True
    | .locked => True
    | _ => (s.chan ch).wish = true

/-- A bridge channel holds no entry but a DRIVE, its controller holds the values of its entries, and its
sequencer is out of IDLE exactly while the channel is RAMPING or ON (R100, R116, R118, R121, R123). -/
def State.BridgesKept (s : State) : Prop :=
  ∀ br : Bridge,
    (∀ cl : Client, ∀ e, s.slot (bridgeChannel br) cl = some e → e.isDrive = true) ∧
    s.HandedOver (bridgeChannel br) ∧
    ((s.bridge br).st ≠ .idle ↔ (s.chan (bridgeChannel br)).admitted = true)

/-- The invariants that a step keeps together, from the admission units to the legs. -/
def State.Coherent (s : State) : Prop :=
  s.AdmissionKept ∧ s.OwnersKept ∧ s.WishesKept ∧ s.BridgesKept

/-! ### What a millisecond brings about -/

/-- The expiries of a millisecond of an ACTIVE part, by the state before it and the state after it: each
timer that runs and has come to its end (00, "Time and events"), and the quiet timer's arrival at 5,000 ms
(R160). No other command falls due. -/
def FallsDue (before after : State) : Instr → Prop
  | .inrushWindowExpiry ch => (after.chan ch).st = .ramping ∧ (after.chan ch).window = some 0
  | .goodRunTimerExpiry ch =>
    (after.chan ch).st = .on ∧ ∃ n, (after.chan ch).goodRun = some n ∧ 10000 ≤ n
  | .periodStart ch => ((after.chan ch).st = .ramping ∨ (after.chan ch).st = .on) ∧
    ∃ t, (after.chan ch).periodTimer = some t ∧ 0 < t.starts
  | .timedExpiry ch cl => match after.slot ch cl with
    | some (.timed _ remaining _) => remaining = 0
    | _ => False
  | .silenceExpiry cl => cl ≠ .wired ∧ (after.client cl).st = .active ∧
    ∃ n, (after.client cl).silence = some n ∧ (after.client cl).timeout ≤ n
  | .admitDelay ch =>
    ∃ e, (after.unit (feedOf ch)).queue.find? (fun e => e.ch = ch) = some e ∧
      ∃ n, e.delay = some n ∧ 5000 ≤ n
  | .holdExpiry f => ∃ h, (after.unit f).hold = some h ∧ h.remaining = 0
  | .shedStep f => (after.monitor f).st = .low ∧
    ∃ n, (after.monitor f).shedTimer = some n ∧ 200 ≤ n
  | .onPhaseEnd g => (after.group g).phase = .onPhase ∧ (after.group g).timer = some 0
  | .offPhaseEnd g => (after.group g).phase = .offPhase ∧ (after.group g).timer = some 0
  | .deadBeforeDriveExpiry br =>
    (after.bridge br).st = .dead .beforeDrive ∧ (after.bridge br).stageTimer = some 0
  | .deadBeforeBrakeExpiry br =>
    (after.bridge br).st = .dead .beforeBrake ∧ (after.bridge br).stageTimer = some 0
  | .brakeExpiry br => (after.bridge br).st = .brake ∧ (after.bridge br).stageTimer = some 0
  | .deadAfterBrakeExpiry br =>
    (after.bridge br).st = .dead .afterBrake ∧ (after.bridge br).stageTimer = some 0
  | .driveTimerExpiry br => (after.bridge br).st = .drive ∧ (after.bridge br).driveTimer = some 0
  | .restTimerExpiry br =>
    ∃ n, (after.bridge br).rest = some n ∧ (after.bridgeProfile br).deadt ≤ n
  | .statusRound p => (after.port p).st = .active ∧
    ∃ n, (after.port p).statusTimer = some n ∧ (after.port p).interval ≤ n
  | .busRecovery p => (after.port p).st = .busOff ∧
    ∃ n, (after.port p).recovery = some n ∧ 200 ≤ n
  | .sleepEntry => (∃ n, after.quiet = some n ∧ 5000 ≤ n) ∧ ¬ ∃ n, before.quiet = some n ∧ 5000 ≤ n
  | _ => False

end Sys2Proof.Machine
end

