-- ==== Sys2Proof/Certificates/Slice0/Obligations.lean ====
section
/-!
DEFINITION. The statements about the part. A statement names its rules of spec/ in its docstring, and the log
entries whose choices or readings it rests on. `s.Takes src` is the condition under which a request is
taken, `s.accepted src f` the state after an accepted one, `s.refusedWith` the state after a refused one
(Sys2Proof/Safety.lean); `State.settle` is the end of every command (SleepIsEnteredAtRest states it).
-/

section Statements

open Sys2Proof Sys2Proof.Machine

/-- A step takes the command at the front of the queue, whole, with the queue's rest (95). -/
def Obligations.StepTakesTheFrontCommand : Prop :=
  ∀ (c : Instr) (rest : List Instr) (s : State),
    step { s with pending := c :: rest } = exec c { s with pending := rest }

/-- On an empty queue a millisecond passes (log 1, the model's choice): without power nothing moves, in SLEEP
the recovery timers alone (R162), in ACTIVE every running timer by 1 ms (00, "Time and events"). A PWM
position moves by 1,000 µs within PERIOD, and each period begun on the way is a start that waits for its
latch (R89; log 16, the model's choice); the sense interval of the millisecond holds conduction if the
output conducted as it began (R70; log 36, the model's reading). The receive error count is a free value
(log 7) and nothing is said of it. A millisecond on an empty queue puts into the queue the expiry of each
timer that has come to its end, and no other (00, "Time and events"; logs 1, 2 and 16); in SLEEP the ends
of bus-off alone (R162). -/
def Obligations.MillisecondsPassOnAnEmptyQueue : Prop :=
  (∀ s : State, s.pending = [] →
     (s.powered = false → step s = .next s) ∧
     (s.powered = true → s.part = .sleep → ∃ t, step s = .next t ∧
       (∃ pa pb n q, t = { s with ports := ⟨pa, pb⟩, freeIndex := n, pending := q }) ∧
       ∀ p, t.port p = { s.port p with
         recovery := (s.port p).recovery.map fun n => min 200 (n + 1)
         rxErrors := (t.port p).rxErrors }) ∧
     (s.Running → ∃ t, step s = .next t ∧
       t.powered = s.powered ∧ t.zone = s.zone ∧ t.part = s.part ∧ t.restCh = s.restCh ∧
       t.restIn = s.restIn ∧ t.pins = s.pins ∧ t.placed = s.placed ∧
       t.quiet = s.quiet.map (fun n => min 5000 (n + 1)) ∧
       (∀ ch, t.chan ch = { s.chan ch with
         window := (s.chan ch).window.map fun n => n - 1
         goodRun := (s.chan ch).goodRun.map fun n => min 10000 (n + 1)
         periodTimer := (s.chan ch).periodTimer.map fun t =>
           let period := (s.chan ch).profile.period.getD 0
           ⟨(t.pos + 1000) % period, t.starts + (t.pos + 1000) / period⟩
         conducted := s.conducts ch }) ∧
       (∀ ch cl, t.slot ch cl = match s.slot ch cl with
         | some (.timed d r ms) =>
           some (if ms + 1 < 10 then .timed d r (ms + 1) else .timed d (r - 1) 0)
         | e => e) ∧
       (∀ cl, t.client cl = { s.client cl with
         silence := (s.client cl).silence.map fun n => min (s.client cl).timeout (n + 1) }) ∧
       (∀ f, t.unit f = { s.unit f with
         queue := (s.unit f).queue.map fun e => { e with delay := e.delay.map fun n => min 5000 (n + 1) }
         hold := (s.unit f).hold.map fun h => { h with remaining := h.remaining - 1 } }) ∧
       (∀ f, t.monitor f = { s.monitor f with
         shedTimer := (s.monitor f).shedTimer.map fun n => min 200 (n + 1) }) ∧
       (∀ g, t.group g = { s.group g with timer := (s.group g).timer.map fun n => n - 1 }) ∧
       (∀ br, t.bridge br = { s.bridge br with
         stageTimer := (s.bridge br).stageTimer.map fun n => n - 1
         driveTimer := (s.bridge br).driveTimer.map fun n => n - 1
         driven := if (s.bridge br).st = .drive then (s.bridge br).driven + 1 else (s.bridge br).driven
         rest := (s.bridge br).rest.map fun n => min (s.bridgeProfile br).deadt (n + 1) }) ∧
       ∀ p, t.port p = { s.port p with
         statusTimer := (s.port p).statusTimer.map fun n => min (s.port p).interval (n + 1)
         recovery := (s.port p).recovery.map fun n => min 200 (n + 1)
         rxErrors := (t.port p).rxErrors })) ∧
  (∀ (s t : State), s.pending = [] → step s = .next t →
     (s.Running → ∀ c : Instr, c ∈ t.pending ↔ FallsDue s t c) ∧
     (s.powered = true → s.part = .sleep → ∀ c : Instr, c ∈ t.pending ↔
       ∃ p : Port, c = .busRecovery p ∧ (t.port p).st = .busOff ∧
         ∃ n, (t.port p).recovery = some n ∧ 200 ≤ n))

/-- The state right after reset, block by block (R158 and the tables it names), and POWER_ON_RESET, which
gives that state with the zone the straps read. The model's choices in it: the raw pin levels (log 8),
the zone of `State.reset` (log 6), a sense interval without conduction (log 36), and that POWER_ON_RESET
is taken in every state, also with power, and keeps the queue and the model's free index (log 27). -/
def Obligations.PowerOnValues : Prop :=
  State.reset.powered = true ∧ State.reset.part = .active ∧ State.reset.quiet = some 0 ∧
  State.reset.restIn = ⟨false, false, false, false⟩ ∧ State.reset.pending = [] ∧
  (∀ ch : Ch, State.reset.restCh[ch] = true) ∧
  (∀ ch : Ch, ∃ p, State.reset.chan ch =
    { st := .off, profile := p, default := true, wish := false, inhibited := false, pending := 0
      applied := 0, periodTimer := none, onTime := 0, q := 0, tripCount := 0
      trip := { cause := .none, rms := 0, q := 0, vavg := 0, tripFrom := .none, pending := 0, count := 0 }
      window := none, goodRun := none, lowCount := 0, goodCount := 0, openFlag := false, stamp := none
      lastRms := 0, lastOn := none, conducted := false }) ∧
  (∀ ch cl, State.reset.slot ch cl = none) ∧
  (∀ cl, State.reset.client cl =
    { st := if cl = .wired then .active else .absent, timeout := 500, silence := none
      lastPort := match cl with
        | .body => some .a
        | .climate => some .a
        | .engine => some .b
        | _ => none }) ∧
  (∀ p, State.reset.pins.get p = { raw := false, level := false, count := 0 }) ∧
  (∀ i, State.reset.placed.get i = []) ∧
  State.reset.unit .a = { peak := 1200, cont := 600, vshed := 200, queue := [], sumS := 0, sumR := 0
                          hold := none, counter := 0 } ∧
  State.reset.unit .b = { peak := 2500, cont := 1500, vshed := 200, queue := [], sumS := 0, sumR := 0
                          hold := none, counter := 0 } ∧
  (∀ f, State.reset.monitor f =
    { st := .cut, voltage := 0, current := 0, window := [], vavg := 0
      counters := ⟨0, 0, 0, 0, 0, 0, 0⟩, shedTimer := none, restoreTimer := none }) ∧
  (∀ g, State.reset.group g =
    { curPeriod := 667, curOn := 500, pendPeriod := 667, pendOn := 500, phase := .idle, timer := none
      fast := false }) ∧
  (∀ br, State.reset.bridge br =
    { st := .idle, dir := .forward, owner := none, stageTimer := none, driveTimer := none
      openEnded := false, stall := 0, redrive := false, ending := none, driven := 0, lastDrive := none
      rest := none }) ∧
  (∀ p, State.reset.port p =
    { st := .active, queue := [], interval := 100, statusTimer := some 0, lost := false, read := none
      recovery := none, txErrors := 0, rxErrors := 0 }) ∧
  ∀ (zone : Fin 4) (s : State), exec (.powerOnReset zone) s =
    .next { State.reset with zone := zone, freeIndex := s.freeIndex, pending := s.pending }

/-- The profiles after power-on reset (R2 and its tables): the type's fields, the channel's CLASS, the
default rights and the default WIRED bindings. -/
def Obligations.DefaultProfiles : Prop :=
  ∀ ch : Ch,
    let p := (State.reset.chan ch).profile
    p.cls = [0, 0, 0, 0, 0, 0, 2, 0, 3, 2, 3, 3, 1, 1, 1, 1].getD ch.val 0 ∧
    p.bindInput = [some .brake, some .brake, some .hazard, some .hazard, some .reverse,
      some .brake].getD ch.val none ∧
    p.bindMode = (if ch = 2 ∨ ch = 3 then .flash .a else .steady) ∧
    p.bindDuty = (if ch.val < 6 then 1000 else 0) ∧
    (ch.val < 8 → p.rated = 80 ∧ p.tau = 13 ∧ p.short = 400 ∧ p.ishort = 600 ∧ p.window = 50 ∧
      p.iclaim = 300 ∧ p.rclaim = 60 ∧ p.retries = 3 ∧ p.openThr = 5 ∧ p.period = some 5000 ∧
      p.vt = 240 ∧ p.silence = some .hold ∧ p.bridge = none ∧
      p.rightBody = .demand ∧ p.rightEngine = .none ∧ p.rightClimate = .none) ∧
    (8 ≤ ch.val → ch.val < 12 → p.rated = 200 ∧ p.tau = 14 ∧ p.short = 700 ∧ p.ishort = 900 ∧
      p.window = 20 ∧ p.iclaim = 250 ∧ p.rclaim = 180 ∧ p.retries = 2 ∧ p.openThr = 20 ∧
      p.period = some 500000 ∧ p.vt = 0 ∧ p.silence = some .release ∧ p.bridge = none ∧
      p.rightBody = .demand ∧ p.rightEngine = .inhibit ∧ p.rightClimate = .demand) ∧
    (12 ≤ ch.val → ch.val < 14 → p.rated = 300 ∧ p.tau = 12 ∧ p.short = 1200 ∧ p.ishort = 1500 ∧
      p.window = 300 ∧ p.iclaim = 600 ∧ p.rclaim = 280 ∧ p.retries = 3 ∧ p.openThr = 20 ∧
      p.period = some 50 ∧ p.vt = 0 ∧ p.silence = some .hold ∧ p.bridge = none ∧
      p.rightBody = .none ∧ p.rightEngine = .demand ∧ p.rightClimate = .demand) ∧
    (14 ≤ ch.val → p.rated = 100 ∧ p.tau = 10 ∧ p.short = 450 ∧ p.ishort = 600 ∧ p.window = 100 ∧
      p.iclaim = 300 ∧ p.rclaim = 100 ∧ p.retries = 1 ∧ p.openThr = 0 ∧ p.period = none ∧ p.vt = 0 ∧
      p.silence = none ∧
      p.bridge = some { stall := 350, stallt := 60, braket := 100, deadt := 2, idle := .float } ∧
      p.rightBody = .demand ∧ p.rightEngine = .demand ∧ p.rightClimate = .none)

/-- Every command is answered with a next state, and leaves the queue of waiting commands as it is.
VKEEP_LOSS (R159): the part stops where it stands, every output and every leg is off, and no command but
POWER_ON_RESET does anything until then; no frame is offered. -/
def Obligations.EveryCommandCompletes : Prop :=
  (∀ (c : Instr) (s : State), ∃ t, exec c s = .next t ∧ t.pending = s.pending) ∧
  (∀ s : State, ∃ t, exec .vkeepLoss s = .next t ∧ t = { s with powered := false } ∧
     (∀ ch, t.conducts ch = false) ∧ (∀ br, t.legs br = (.off, .off)) ∧
     ∀ c, (∀ zone, c ≠ .powerOnReset zone) → exec c t = .next t)

/-- The end of a command (R161): the rest conditions are handed over, and the part enters SLEEP in the same
change exactly when it is ACTIVE, one of the conditions became true by the command, and all four hold.
The entry stops the quiet timer, the silence, shed step, restore and status timers, and empties the
holds. SLEEP_ENTRY (R161): with all four conditions the part enters SLEEP in one change; each channel,
entry, group and bridge stays as it is. -/
def Obligations.SleepIsEnteredAtRest : Prop :=
  (∀ before after : State,
     let levels : PerPin Bool :=
       ⟨after.level .brake, after.level .hazard, after.level .reverse, after.level .key⟩
     let handed := { after with restCh := mapChannels Channel.atRest after.chans, restIn := levels }
     let became := (∃ p, before.restIn.get p = true ∧ levels.get p = false) ∨
       ∃ ch : Ch, before.restCh[ch] = false ∧ (after.chan ch).atRest = true
     let ready := (∀ p, levels.get p = false) ∧ (∀ ch, (after.chan ch).atRest = true) ∧
       after.quiet = some 5000
     (¬ (after.part = .active ∧ became ∧ ready) → State.settle before after = handed) ∧
     (after.part = .active ∧ became ∧ ready → State.settle before after = { handed with
       part := .sleep
       quiet := none
       adm := ⟨{ after.adm.a with hold := none }, { after.adm.b with hold := none }⟩
       mon := ⟨{ after.mon.a with shedTimer := none, restoreTimer := none },
               { after.mon.b with shedTimer := none, restoreTimer := none }⟩
       clients := ⟨{ after.clients.wired with silence := none }, { after.clients.body with silence := none },
                   { after.clients.engine with silence := none },
                   { after.clients.climate with silence := none },
                   { after.clients.service with silence := none }⟩
       ports := ⟨{ after.ports.a with statusTimer := none }, { after.ports.b with statusTimer := none }⟩ }) ∧
     ∀ c : Channel, c.atRest = true ↔
       (c.st = .off ∨ c.st = .locked) ∧ c.q ≤ c.profile.rated * c.profile.rated * 64) ∧
  (∀ s : State, s.Running → s.RestHanded → s.restIn = ⟨false, false, false, false⟩ →
     (∀ ch, (s.chan ch).atRest = true) → s.quiet = some 5000 →
     exec .sleepEntry s = .next { s with
       part := .sleep
       quiet := none
       adm := ⟨{ s.adm.a with hold := none }, { s.adm.b with hold := none }⟩
       mon := ⟨{ s.mon.a with shedTimer := none, restoreTimer := none },
               { s.mon.b with shedTimer := none, restoreTimer := none }⟩
       clients := ⟨{ s.clients.wired with silence := none }, { s.clients.body with silence := none },
                   { s.clients.engine with silence := none }, { s.clients.climate with silence := none },
                   { s.clients.service with silence := none }⟩
       ports := ⟨{ s.ports.a with statusTimer := none }, { s.ports.b with statusTimer := none }⟩ })

/-- WAKE (R163) in SLEEP, by a data frame with one of the zone's four request identifiers on an ACTIVE port
or by a wired sample that makes a level active: ACTIVE with the quiet timer from 0, both feeds in CUT
with window, Vavg and counters cleared, each ACTIVE client's silence timer from 0, each ACTIVE port's
status timer from 0 with a status round; every entry, group and bridge as it was, and every channel but
for its sense interval, which begins anew (R69; log 36). A WAKE by an input samples no pin (log 35, the
model's choice). A request frame in SLEEP, on an ACTIVE port and from one of the four clients, wakes the
part and is then taken as in ACTIVE (R145, R163); this holds of every request kind. -/
def Obligations.WakeRestartsTheBlocks : Prop :=
  (∀ (s : State) (cause : WakeCause), s.powered = true → s.part = .sleep → s.RestHanded →
     (match cause with
       | .frame p f => (s.port p).st = .active ∧ f.remote = false ∧ f.extended = false ∧
           ∃ cl, cl ≠ Client.wired ∧ f.id = 0x480 + cl.number + 0x10 * s.zone.val
       | .input l => s.anyActivates l = true) →
     ∃ t, exec (.wake cause) s = .next t ∧ t.part = .active ∧ t.quiet = some 0 ∧
       t.powered = true ∧ t.pending = s.pending ∧ t.freeIndex = s.freeIndex ∧
       t.client .wired = s.client .wired ∧
       (∀ ch, t.chan ch = { s.chan ch with conducted := false }) ∧
       t.demand = s.demand ∧ t.groups = s.groups ∧ t.bridges = s.bridges ∧
       t.adm = s.adm ∧ t.pins = s.pins ∧ t.placed = s.placed ∧ t.zone = s.zone ∧
       t.restCh = s.restCh ∧ t.restIn = s.restIn ∧
       (∀ f, t.monitor f = { s.monitor f with
         st := .cut, window := [], vavg := 0, counters := ⟨0, 0, 0, 0, 0, 0, 0⟩
         shedTimer := none, restoreTimer := none }) ∧
       (∀ cl, cl ≠ .wired → t.client cl = if (s.client cl).st = .active
         then { s.client cl with silence := some 0 } else s.client cl) ∧
       ∀ p, ((s.port p).st = .busOff → t.port p = s.port p) ∧
         ((s.port p).st = .active → (t.port p).statusTimer = some 0 ∧ (t.port p).st = .active ∧
           ∃ new, (t.port p).queue = (s.port p).queue ++ new ∧
             new.length = min 9 (12 - (s.port p).queue.length) ∧
             ∀ k, (h : k < new.length) → new[k].id = BitVec.ofNat 11 (0x500 + 0x10 * s.zone.val + k))) ∧
  (∀ (i : Instr) (src : Source) (bytes : List Byte) (s : State),
     requestBytes i = some (src, bytes) → s.powered = true → s.part = .sleep →
     (s.port src.port).st = .active → src.client ≠ .wired →
     exec i s = exec i s.wakeUp)

/-- PRESENT (R27, R34): the request is accepted and does nothing but refresh its sender, as every taken frame
does: ACTIVE with the silence timer from 0, SERVICE's last port the frame's, and CLIENT_BACK with the
number of held entries for a client that was LOST. -/
def Obligations.PresentRefreshesItsSender : Prop :=
  ∀ (src : Source) (s : State),
    let was := s.client src.client
    let back := s.setClient src.client { was with
      st := .active
      silence := some 0
      lastPort := if src.client = .service then some src.port else was.lastPort }
    let held := allChannels.countP fun ch =>
      match s.slot ch src.client with
      | some (.steady _ true) => true
      | some (.flash _ _ _ _ _ true) => true
      | _ => false
    (was.st ≠ .lost → s.heard src = back) ∧
    (was.st = .lost → s.heard src =
      back.offerEvent (.clientBack src.client src.port held)) ∧
    (s.Takes src → exec (.present src) s = .next (s.accepted src fun u => u))

/-- The intake of a raw frame on an ACTIVE port (R142, R143, R145). A remote frame, a 29-bit frame and a
frame without one of the zone's four request identifiers are ignored and change nothing. A client's frame
on a port not its own is ignored, after it has woken a sleeping part. A client's frame of length 0 or of
a wrong length is refused BAD_FORMAT, one of an unknown kind UNKNOWN_KIND; in SLEEP it first wakes the
part. A request frame, as a command of any kind or raw, on the bus of a BUS_OFF port is lost and sets the
recovery timer back to 0 (R142, R155; log 18, the model's reading). A request command on an ACTIVE port
that does not take its client's frames does nothing but wake a sleeping part (R142, R145, R163); one that
names WIRED does nothing (log 25). -/
def Obligations.PortsIgnoreOrRefuseFrames : Prop :=
  (∀ (p : Port) (f : CanFrame) (s : State),
     s.powered = true → (s.port p).st = .active →
     let names (cl : Client) : Prop := cl ≠ .wired ∧ f.remote = false ∧ f.extended = false ∧
       f.id = 0x480 + cl.number + 0x10 * s.zone.val
     let elsewhere (cl : Client) : Prop :=
       (cl = .engine ∧ p = .a) ∨ ((cl = .body ∨ cl = .climate) ∧ p = .b)
     let byte1 := (f.data.tail).headD 0
     let kinds : List (Byte × Nat) := [(0x01, 1), (0x10, 4), (0x11, 6), (0x12, 6), (0x13, 2), (0x14, 5),
       (0x18, 2), (0x19, 2), (0x20, 4), (0x21, 2), (0x22, 6), (0x30, 7), (0x31, 8), (0x32, 7), (0x33, 7),
       (0x34, 7), (0x35, 8), (0x38, 8), (0x39, 4), (0x3A, 4), (0x40, 2), (0x7E, 1)]
     (∀ k : Byte, kindLength k = (kinds.find? fun x => x.1 = k).map Prod.snd) ∧
     ((∀ cl, ¬ names cl) → exec (.frameIgnored p f) s = .next (State.settle s s)) ∧
     ∀ cl, names cl →
       (elsewhere cl → s.part = .active → exec (.frameIgnored p f) s = .next (State.settle s s)) ∧
       (elsewhere cl → s.part = .sleep →
         exec (.frameIgnored p f) s = .next (State.settle s s.wakeUp)) ∧
       (¬ elsewhere cl →
         (s.part = .sleep → (f.data = [] ∨ kindLength (f.data.headD 0) ≠ some f.data.length) →
           exec (.frameRefusedByPort p f) s = exec (.frameRefusedByPort p f) s.wakeUp) ∧
         (s.part = .active →
           (f.data = [] → exec (.frameRefusedByPort p f) s =
             .next (s.refusedWith ⟨p, cl⟩ 0 0 .badFormat)) ∧
           (f.data ≠ [] → kindLength (f.data.headD 0) = none →
             exec (.frameRefusedByPort p f) s =
               .next (s.refusedWith ⟨p, cl⟩ (f.data.headD 0) byte1 .unknownKind)) ∧
           ∀ n, kindLength (f.data.headD 0) = some n → f.data ≠ [] → n ≠ f.data.length →
             exec (.frameRefusedByPort p f) s =
               .next (s.refusedWith ⟨p, cl⟩ (f.data.headD 0) byte1 .badFormat)))) ∧
  (∀ (i : Instr) (src : Source) (bytes : List Byte) (p : Port) (f : CanFrame) (s : State),
     s.powered = true →
     let elsewhere (cl : Client) (x : Port) : Prop :=
       (cl = .engine ∧ x = .a) ∨ ((cl = .body ∨ cl = .climate) ∧ x = .b)
     let lost (x : Port) : State :=
       s.setPort x { s.port x with recovery := (s.port x).recovery.map fun _ => 0 }
     let outcome (c : Instr) (t : State) : Prop := exec c s = .next (State.settle s t)
     (requestBytes i = some (src, bytes) →
       ((s.port src.port).st = .busOff → outcome i (lost src.port)) ∧
       ((s.port src.port).st = .active → src.client = .wired → outcome i s) ∧
       ((s.port src.port).st = .active → elsewhere src.client src.port →
         (s.part = .active → outcome i s) ∧ (s.part = .sleep → outcome i s.wakeUp))) ∧
     ((s.port p).st = .busOff →
       outcome (.frameIgnored p f) (lost p) ∧
       ∀ cl, cl ≠ .wired → f.remote = false → f.extended = false →
         f.id = 0x480 + cl.number + 0x10 * s.zone.val → ¬ elsewhere cl p →
         f.data = [] ∨ kindLength (f.data.headD 0) ≠ some f.data.length →
         outcome (.frameRefusedByPort p f) (lost p)))

/-- An offered event or REPLY (R147, R148, 09 section 9.9): each port judges on its own; with the port ACTIVE
and a slot free the frame enters at the tail, with 8 bytes under the EVENT identifier or 4 under the
REPLY's; otherwise it is dropped and the events-lost flag set. An event goes to both ports, a REPLY to
its own alone, and no other block is touched. -/
def Obligations.OffersEnterOrSetTheLostFlag : Prop :=
  ∀ (s : State) (e : Event) (p : Port) (kind byte1 : Byte) (cl : Client) (code : RefusalCode),
    let event : TxFrame := { id := BitVec.ofNat 11 (0x509 + 0x10 * s.zone.val), data := e.bytes }
    let reply : TxFrame := { id := BitVec.ofNat 11 (0x50A + 0x10 * s.zone.val),
                             data := [kind, byte cl.number, byte code.code, byte1] }
    let enters (r : PortRecord) (f : TxFrame) (r' : PortRecord) : Prop :=
      (r.st = .active ∧ r.queue.length < 12 → r' = { r with queue := r.queue ++ [f] }) ∧
      (r.st = .busOff ∨ 12 ≤ r.queue.length → r' = { r with lost := true })
    e.bytes.length = 8 ∧
    s.offerEvent e = { s with ports := (s.offerEvent e).ports } ∧
    (∀ x, enters (s.port x) event ((s.offerEvent e).port x)) ∧
    s.offerReply p kind cl code byte1 = { s with ports := (s.offerReply p kind cl code byte1).ports } ∧
    enters (s.port p) reply ((s.offerReply p kind cl code byte1).port p) ∧
    ∀ x, x ≠ p → (s.offerReply p kind cl code byte1).port x = s.port x

/-- SILENCE_EXPIRY (R28, R29, R65): an ACTIVE client whose silence timer has reached its timeout is LOST; its
INHIBIT entries go, its STEADY and FLASH entries are kept as held or go by the channel's SILENCE, its
TIMED entries stay; SERVICE's all go; its holds end; CLIENT_LOST, with both counts, is offered last. A
lost owner's DRIVE entry is ended with cause LOST. The other clients keep everything. That the channels
are taken in ascending order, and feed A's hold before feed B's, is the model's choice (log 13).
CLIENT_CFG from SERVICE (R31): the named client's timeout, clamped to 50 to 5000 ms; an ACTIVE client
whose timer already stands at or above it is LOST at once. -/
def Obligations.SilenceLosesTheClient : Prop :=
  (∀ (cl : Client) (s : State),
     let u := s.expireSilence cl
     let goes (ch : Ch) : Bool := cl = .service || (s.chan ch).profile.silence = some .release
     let removed := allChannels.countP fun ch =>
       match s.slot ch cl with
       | some .inhibit => true
       | some (.drive _ _ _) => true
       | some (.timed _ _ _) => decide (cl = .service)
       | some (.steady _ _) => goes ch
       | some (.flash _ _ _ _ _ _) => goes ch
       | none => false
     let kept := allChannels.countP fun ch =>
       match s.slot ch cl with
       | some (.steady _ _) => !goes ch
       | some (.flash _ _ _ _ _ _) => !goes ch
       | _ => false
     (s.Running → cl ≠ .wired → (s.client cl).st = .active →
       (∃ n, (s.client cl).silence = some n ∧ (s.client cl).timeout ≤ n) →
       exec (.silenceExpiry cl) s = .next (State.settle s u)) ∧
     u.client cl = { s.client cl with st := .lost, silence := none } ∧
     (∀ x, x ≠ cl → u.client x = s.client x) ∧
     (∀ ch, bridgeOf ch = none →
       (∀ x, x ≠ cl → u.slot ch x = s.slot ch x) ∧
       u.slot ch cl = match s.slot ch cl with
         | some (.timed d r ms) => if cl = .service then none else some (.timed d r ms)
         | some (.steady d _) => if goes ch then none else some (.steady d true)
         | some (.flash d g n r st _) => if goes ch then none else some (.flash d g n r st true)
         | some (.drive dir n e) => some (.drive dir n e)
         | _ => none) ∧
     (∀ f, (u.unit f).hold =
       if (s.unit f).hold.map Hold.holder = some cl then none else (s.unit f).hold) ∧
     u.groups = s.groups ∧ u.mon = s.mon ∧ u.pins = s.pins ∧ u.placed = s.placed ∧
     (∀ ch, (s.chan ch).SameLearned (u.chan ch)) ∧
     u = (((allChannels.foldl (fun t ch => t.silenceEntry cl ch)
       (s.setClient cl { s.client cl with st := .lost, silence := none })).loseHold cl .a).loseHold cl
         .b).offerEvent (.clientLost cl (s.client cl).lastPort removed kept) ∧
     ∀ ch, ((s.slot ch cl).map Entry.isDrive) = some true →
       s.silenceEntry cl ch = s.endEntry ch cl .lost) ∧
  (∀ (port : Port) (b : Byte) (time : Half) (who : Client) (s : State),
     let src : Source := ⟨port, .service⟩
     let r : ClientRecord := { (s.heard src).client who with timeout := max 50 (min 5000 time.toNat) }
     let late := r.st = .active ∧ ∃ n, r.silence = some n ∧ r.timeout ≤ n
     s.Takes src → who ≠ .wired → b.toNat = who.number →
     (¬ late → exec (.clientCfg src b time) s =
       .next (s.accepted src fun u => u.setClient who r)) ∧
     (late → exec (.clientCfg src b time) s =
       .next (s.accepted src fun u => (u.setClient who r).expireSilence who)))

/-- The checks of the channel requests (R36 checks 1 to 4, R33, R144), the first that fails deciding: a
channel byte above 15 (0xFF names all channels for RELEASE alone), a kind the channel's type does not
take, a right the sender lacks, a bridge that another client owns. A refused request draws its REPLY and
changes nothing but its sender's refresh. -/
def Obligations.ChannelRequestsAreCheckedInOrder : Prop :=
  ∀ (src : Source) (b : Byte) (d n : Half) (g k : Byte) (s : State), s.Takes src →
    let refused (c : Instr) (kind : Byte) (code : RefusalCode) : Prop :=
      exec c s = .next (s.refusedWith src kind b code)
    (16 ≤ b.toNat →
      refused (.setSteady src b d) 0x10 .badTarget ∧ refused (.setTimed src b d n) 0x11 .badTarget ∧
      refused (.setFlash src b d g k) 0x12 .badTarget ∧ refused (.setInhibit src b) 0x13 .badTarget ∧
      refused (.drive src b k n) 0x14 .badTarget ∧ refused (.clear src b) 0x19 .badTarget ∧
      (b ≠ 0xFF → refused (.release src b) 0x18 .badTarget)) ∧
    ∀ ch, NamesChannel b ch →
      (typeOf ch = .bridge →
        refused (.setSteady src b d) 0x10 .badTarget ∧ refused (.setTimed src b d n) 0x11 .badTarget) ∧
      (typeOf ch ≠ .lamp ∨ 2 ≤ g.toNat → refused (.setFlash src b d g k) 0x12 .badTarget) ∧
      (typeOf ch ≠ .bridge → refused (.drive src b k n) 0x14 .badTarget) ∧
      (¬ s.MayDemand src.client ch →
        (typeOf ch ≠ .bridge →
          refused (.setSteady src b d) 0x10 .noRight ∧ refused (.setTimed src b d n) 0x11 .noRight) ∧
        (typeOf ch = .lamp → g.toNat < 2 → refused (.setFlash src b d g k) 0x12 .noRight) ∧
        (typeOf ch = .bridge → refused (.drive src b k n) 0x14 .noRight)) ∧
      (¬ s.MayInhibit src.client ch → refused (.setInhibit src b) 0x13 .noRight) ∧
      (¬ s.MayClear src.client ch → refused (.clear src b) 0x19 .noRight) ∧
      ∀ br, bridgeOf ch = some br → s.MayDemand src.client ch →
        (∃ x, (s.bridge br).owner = some x ∧ x ≠ src.client) →
        refused (.drive src b k n) 0x14 .busy

/-- An accepted SET_STEADY (duty above 0), SET_TIMED or SET_FLASH (R37, R38, R43, R107, R108): the clamped
entry replaces whatever the sender's slot held, the channel's controller holds the new combined demand, a
FLASH entry on an IDLE group starts the group and is started with it, and one on a running group is
joined. No other slot, no other channel's demand and no other block changes. -/
def Obligations.SetRequestsRecordTheirEntry : Prop :=
  ∀ (src : Source) (b : Byte) (d n : Half) (gb k : Byte) (ch : Ch) (g : Sys2Proof.Group) (s : State),
    s.Takes src → NamesChannel b ch → s.MayDemand src.client ch →
    let u := s.heard src
    let duty := min 1000 d.toNat
    let records (c : Instr) (e : Entry) (started : Option Sys2Proof.Group) : Prop :=
      ∃ t, exec c s = .next t ∧
        t.slot ch src.client = some e ∧
        (∀ x y, ¬ (x = ch ∧ y = src.client) → t.slot x y = s.slot x y) ∧
        t.HandedOver ch ∧ (∀ x, x ≠ ch → u.SameWish t x) ∧
        (∀ x, some x ≠ started → t.group x = s.group x) ∧
        (∀ x, started = some x → (t.group x).phase = .onPhase ∧
          (t.group x).timer = some (t.group x).onLength ∧
          ((t.group x).fast = true ↔ ∃ y : Ch, (s.chan y).openFlag = true ∧
            ∃ cl : Client, ((t.slot y cl).bind Entry.flashGroup) = some x) ∧
          (t.group x).curPeriod = (s.group x).curPeriod ∧ (t.group x).curOn = (s.group x).curOn ∧
          (t.group x).pendPeriod = (s.group x).pendPeriod ∧ (t.group x).pendOn = (s.group x).pendOn) ∧
        t.ports = u.ports ∧ t.quiet = some 0 ∧ t.RestHanded ∧ u.SameBeyondDemands t
    (typeOf ch ≠ .bridge → d.toNat ≠ 0 →
      records (.setSteady src b d) (.steady duty false) none) ∧
    (typeOf ch ≠ .bridge →
      records (.setTimed src b d n) (.timed duty (max 1 (min 60000 n.toNat)) 0) none) ∧
    (typeOf ch = .lamp → NamesSide gb g →
      ((s.group g).phase ≠ .idle → records (.setFlash src b d gb k)
        (.flash duty g k.toNat k.toNat false false) none) ∧
      ((s.group g).phase = .idle → records (.setFlash src b d gb k)
        (.flash duty g k.toNat k.toNat true false) (some g)))

/-- The hand-over of a channel's combined demand (R12 to R16, R43, R54, R56, R62, R100), for every channel,
in every state, whatever changed the demand. With all three values as they were nothing happens. Without
a change of wish they are recorded and no state moves. A wish that begins acts in OFF alone: SUSPENDED on
a feed in CUT, and in SURGE for class 2 or 3, class 0 admitted at once, classes 1 to 3 placed in the
queue, which is then examined. A wish that ends leads to OFF from the five wanting states, the claims
released or the queue left, and the queue examined unless the change examines it later; OFF, TRIPPED and
LOCKED only record it. The changes of the demand table that end in that hand-over (R38, R40, R43, R46):
SET_STEADY, SET_TIMED and SET_FLASH hand over with their entry recorded, a RELEASE with the sender's
INHIBIT removed, an activation of an input over each channel bound to it, ascending (log 13, the model's
choice), with all its entries placed. Recording and placing touch the demand table, the groups and the
placed sets alone. A demand that changes no wish, or whose wish begins in TRIPPED or LOCKED (R12, R13):
SET_STEADY on a channel that no other client inhibits records the entry and the pending duty and moves
nothing else. A wish that begins in OFF (R14, R62, R54): SUSPENDED on a feed in CUT, and in SURGE for
class 2 or 3; class 0 is admitted at once; classes 1 to 3 are placed in the queue, which is then
examined. -/
def Obligations.WishesBeginByTheState : Prop :=
  (∀ (ch : Ch) (examined : Bool) (s : State),
     let f := feedOf ch
     let c := s.chan ch
     let d := s.combined ch
     let cls := c.profile.cls
     let fs := (s.monitor f).st
     let r : Channel := { c with
       wish := d.wants, inhibited := d.inhibited, pending := d.duty
       applied := if typeOf ch = .bridge ∧ (c.st = .ramping ∨ c.st = .on) then d.duty else c.applied }
     let told := s.setChan ch r
     let t := s.recompute examined ch
     let same := d.duty = c.pending ∧ d.inhibited = c.inhibited ∧ d.wants = c.wish
     let u := s.unit f
     let freed : Admission := match c.st with
       | .waiting => { u with queue := u.queue.filter fun e => e.ch ≠ ch }
       | .ramping => { u with sumS := u.sumS - c.profile.iclaim, sumR := u.sumR - c.profile.rclaim }
       | .on => { u with sumS := u.sumS - c.profile.rclaim, sumR := u.sumR - c.profile.rclaim }
       | _ => u
     let off : Channel := match c.st with
       | .ramping => { r with st := .off, window := none, goodRun := none, lowCount := 0, goodCount := 0
                              applied := 0, onTime := 0, periodTimer := none }
       | .on => { r with st := .off, window := none, goodRun := none, lowCount := 0, goodCount := 0
                         applied := 0, onTime := 0, periodTimer := none }
       | _ => { r with st := .off }
     let gone := (s.setUnit f freed).setChan ch off
     (same → t = s) ∧
     (¬ same → d.wants = c.wish → t = told) ∧
     (c.wish = false → d.wants = true →
       (c.st ≠ .off → t = told) ∧
       (c.st = .off →
         (fs = .cut ∨ (fs = .surge ∧ 2 ≤ cls) → t = told.setChan ch { r with st := .suspended }) ∧
         (fs ≠ .cut → cls = 0 → t = told.admitChannel ch) ∧
         (fs ≠ .cut → ¬ (fs = .surge ∧ 2 ≤ cls) → 1 ≤ cls → t =
           ((told.setChan ch { r with st := .waiting }).setUnit f { u with
             queue := insertBehind { ch := ch, cls := cls, delay := some 0 } u.queue }).examine f))) ∧
     (c.wish = true → d.wants = false →
       (c.st = .off ∨ c.st = .tripped ∨ c.st = .locked → t = told) ∧
       (c.st = .shed ∨ c.st = .suspended → t = gone) ∧
       (c.st = .waiting ∨ c.st = .ramping ∨ c.st = .on →
         t = if examined = true then gone.examine f else gone))) ∧
  (∀ (src : Source) (b gb k : Byte) (d n : Half) (ch : Ch) (g : Sys2Proof.Group) (e : Entry) (i : WiredInput)
     (s : State),
     let cl := src.client
     let duty := min 1000 d.toNat
     let placed := s.placeWired i
     let put := s.putEntry ch cl e
     let outcome (c : Instr) (w : State → State) : Prop :=
       exec c s = .next (s.accepted src fun u => (w u).recompute true ch)
     (s.Takes src → NamesChannel b ch →
       (s.MayDemand cl ch → typeOf ch ≠ .bridge →
         (d.toNat ≠ 0 → outcome (.setSteady src b d) (fun u => u.setSlot ch cl (some (.steady duty false)))) ∧
         outcome (.setTimed src b d n)
           (fun u => u.setSlot ch cl (some (.timed duty (max 1 (min 60000 n.toNat)) 0)))) ∧
       (s.MayDemand cl ch → typeOf ch = .lamp → NamesSide gb g →
         outcome (.setFlash src b d gb k)
           (fun u => u.putEntry ch cl (.flash duty g k.toNat k.toNat false false))) ∧
       (s.slot ch cl = some .inhibit → outcome (.release src b) (fun u => u.setSlot ch cl none))) ∧
     s.activateInput i = (allChannels.filter fun x =>
         decide ((s.chan x).profile.bindInput = some i ∧ 0 < (s.chan x).profile.bindDuty)).foldl
       (fun t x => t.recompute true x) placed ∧
     put = { s with demand := put.demand, groups := put.groups } ∧
     placed = { s with demand := placed.demand, groups := placed.groups, placed := placed.placed }) ∧
  (∀ (src : Source) (b : Byte) (d : Half) (ch : Ch) (s : State),
     s.Takes src → NamesChannel b ch → s.MayDemand src.client ch → typeOf ch ≠ .bridge → d.toNat ≠ 0 →
     (∀ cl, cl ≠ src.client → s.slot ch cl ≠ some .inhibit) →
     (s.chan ch).wish = true ∨ (s.chan ch).st = .tripped ∨ (s.chan ch).st = .locked →
     exec (.setSteady src b d) s = .next (s.accepted src fun u =>
       let v := u.setSlot ch src.client (some (.steady (min 1000 d.toNat) false))
       v.setChan ch { u.chan ch with
         wish := true, inhibited := false, pending := (v.combined ch).duty })) ∧
  (∀ (src : Source) (b : Byte) (d : Half) (ch : Ch) (s : State),
     s.Takes src → NamesChannel b ch → s.MayDemand src.client ch → typeOf ch ≠ .bridge → d.toNat ≠ 0 →
     (∀ cl, cl ≠ src.client → s.slot ch cl ≠ some .inhibit) →
     (s.chan ch).wish = false → (s.chan ch).st = .off →
     let f := feedOf ch
     let cls := (s.chan ch).profile.cls
     let fs := (s.monitor f).st
     let told (u : State) : State :=
       let v := u.setSlot ch src.client (some (.steady (min 1000 d.toNat) false))
       v.setChan ch { u.chan ch with
         wish := true, inhibited := false, pending := (v.combined ch).duty }
     (fs = .cut ∨ (fs = .surge ∧ 2 ≤ cls) → exec (.setSteady src b d) s =
       .next (s.accepted src fun u =>
         (told u).setChan ch { (told u).chan ch with st := .suspended })) ∧
     (fs ≠ .cut → cls = 0 → exec (.setSteady src b d) s =
       .next (s.accepted src fun u => (told u).admitChannel ch)) ∧
     (fs ≠ .cut → ¬ (fs = .surge ∧ 2 ≤ cls) → 1 ≤ cls → exec (.setSteady src b d) s =
       .next (s.accepted src fun u =>
         let w := (told u).setChan ch { (told u).chan ch with st := .waiting }
         (w.setUnit f { w.unit f with
           queue := insertBehind { ch := ch, cls := cls, delay := some 0 } (w.unit f).queue }).examine f)))

/-- SET_INHIBIT on a channel that wants power (R38, R42, R44, R16, R94, R85): the entry is recorded, the
channel is inhibited with pending duty 0 and its wish ends: from WAITING, RAMPING, ON, SHED and SUSPENDED
it goes OFF with its timers, open-load counters and drive cleared; TRIPPED and LOCKED only record the
end. The premise that admission and channels agree rules out states no run reaches. -/
def Obligations.InhibitEndsTheWish : Prop :=
  ∀ (src : Source) (b : Byte) (ch : Ch) (s : State),
    s.Takes src → NamesChannel b ch → s.MayInhibit src.client ch → s.AdmissionKept →
    (s.chan ch).wish = true →
    let u := s.heard src
    let c := { s.chan ch with wish := false, inhibited := true, pending := 0 }
    ∃ t, exec (.setInhibit src b) s = .next t ∧
      t.slot ch src.client = some .inhibit ∧
      (∀ x y, ¬ (x = ch ∧ y = src.client) → t.slot x y = s.slot x y) ∧
      t.chan ch = (match (s.chan ch).st with
        | .off => c
        | .tripped => c
        | .locked => c
        | .ramping => { c with st := .off, window := none, goodRun := none, lowCount := 0
                               goodCount := 0, applied := 0, onTime := 0, periodTimer := none }
        | .on => { c with st := .off, window := none, goodRun := none, lowCount := 0
                          goodCount := 0, applied := 0, onTime := 0, periodTimer := none }
        | _ => { c with st := .off }) ∧
      (∀ x, x ≠ ch → u.SameWish t x) ∧ (∀ f, f ≠ feedOf ch → t.unit f = s.unit f) ∧
      (∀ e ∈ (t.unit (feedOf ch)).queue, e.ch ≠ ch) ∧
      t.groups = s.groups ∧ t.ports = u.ports ∧ t.quiet = some 0 ∧ t.RestHanded ∧
      u.SameBeyondDemands t

/-- RELEASE (R40, R43): the sender's entry on the channel named, or on all sixteen for 0xFF, is removed and
each channel's combined demand handed over; a channel without an entry of the sender is left alone. A
SET_STEADY of duty 0 is that RELEASE (R37). A DRIVE entry of the sender is not removed but ended, with
cause RELEASED (R39). That a RELEASE of all channels takes them in ascending order is the model's choice
(log 13). TIMED_EXPIRY (R41): a TIMED entry with no time left is removed, its channel's combined demand
handed over, and EXPIRE offered to both ports. -/
def Obligations.EntriesAreRemoved : Prop :=
  (∀ (src : Source) (b : Byte) (ch : Ch) (s : State), s.Takes src →
     let u := s.heard src
     let noDrive (x : Ch) : Prop := ((s.slot x src.client).map Entry.isDrive).getD false = false
     let removes (chosen : Ch → Prop) : Prop := ∃ t, exec (.release src b) s = .next t ∧
       (∀ x, chosen x → t.slot x src.client = none) ∧
       (∀ x y, ¬ (chosen x ∧ y = src.client) → t.slot x y = s.slot x y) ∧
       (∀ x, chosen x → s.slot x src.client ≠ none → t.HandedOver x) ∧
       (∀ x, ¬ (chosen x ∧ s.slot x src.client ≠ none) → u.SameWish t x) ∧
       t.groups = s.groups ∧ t.ports = u.ports ∧ t.quiet = some 0 ∧ t.RestHanded ∧
       u.SameBeyondDemands t
     (b = 0xFF →
       exec (.release src b) s = .next (s.accepted src fun u =>
         allChannels.foldl (fun t x => t.releaseEntry src.client x) u) ∧
       ((∀ x, noDrive x) → removes fun _ => True)) ∧
     (¬ noDrive ch → s.releaseEntry src.client ch = s.endEntry ch src.client .released) ∧
     (NamesChannel b ch →
       exec (.release src b) s = .next (s.accepted src fun u => u.releaseEntry src.client ch) ∧
       (noDrive ch → removes (fun x => x = ch)) ∧
       (s.slot ch src.client = none → exec (.release src b) s = .next (s.accepted src fun u => u)) ∧
       (typeOf ch ≠ .bridge → s.MayDemand src.client ch →
         exec (.setSteady src b 0) s = exec (.release src b) s))) ∧
  (∀ (ch : Ch) (cl : Client) (d ms : Nat) (s : State),
     s.Running → s.slot ch cl = some (.timed d 0 ms) →
     let u := s.removeEntry ch cl
     exec (.timedExpiry ch cl) s = .next (State.settle s (u.offerEvent (.expire ch cl))) ∧
     u.slot ch cl = none ∧ (∀ x y, ¬ (x = ch ∧ y = cl) → u.slot x y = s.slot x y) ∧
     u.HandedOver ch ∧ (∀ x, x ≠ ch → s.SameWish u x) ∧ u.groups = s.groups ∧ u.ports = s.ports ∧
     u.quiet = s.quiet ∧ s.SameBeyondDemands u)

/-- The combined demand of a channel (R42). -/
def Obligations.CombinedDemandOfAChannel : Prop :=
  ∀ (s : State) (ch : Ch),
    let d := s.combined ch
    let momentary : Entry → Nat
      | .steady duty _ => duty
      | .timed duty _ _ => duty
      | .flash duty g _ _ started _ => if started = true ∧ (s.group g).phase = .onPhase then duty else 0
      | .drive _ _ _ => 1000
      | .inhibit => 0
    (d.inhibited = true ↔ ∃ cl, s.slot ch cl = some .inhibit) ∧
    (d.wants = true ↔ (∀ cl, s.slot ch cl ≠ some .inhibit) ∧ ∃ cl, s.slot ch cl ≠ none) ∧
    ((∃ cl, s.slot ch cl = some .inhibit) ∨ (∀ cl, s.slot ch cl = none) → d.duty = 0) ∧
    ((∀ cl, s.slot ch cl ≠ some .inhibit) → (∃ cl, s.slot ch cl ≠ none) →
      (∀ cl, ∀ e, s.slot ch cl = some e → momentary e ≤ d.duty) ∧
      ∃ cl, ∃ e, s.slot ch cl = some e ∧ momentary e = d.duty)

/-- CLEAR (R20): trip count 0, and LOCKED becomes TRIPPED; nothing else of the channel changes.
GOOD_RUN_TIMER_EXPIRY (R21): after 10,000 ms in ON the trip count is 0 and the timer stops; nothing else
changes. -/
def Obligations.TripCountsAreCleared : Prop :=
  (∀ (src : Source) (b : Byte) (ch : Ch) (s : State),
     s.Takes src → NamesChannel b ch → s.MayClear src.client ch →
     exec (.clear src b) s = .next (s.accepted src fun u => u.setChan ch { u.chan ch with
       tripCount := 0
       st := if (u.chan ch).st = .locked then .tripped else (u.chan ch).st })) ∧
  (∀ (ch : Ch) (n : Nat) (s : State), s.Running →
     (s.chan ch).st = .on → (s.chan ch).goodRun = some n → 10000 ≤ n →
     exec (.goodRunTimerExpiry ch) s = .next (State.settle s
       (s.setChan ch { s.chan ch with tripCount := 0, goodRun := none })))

/-- WIRED_INPUT_SAMPLE and KEY_CHANGE (R45, R161): each pin's raw level, debounced level and counter after a
sample, the twentieth sample in a row at a new level changing the debounced level. A sample that changes
no debounced level of BRAKE, HAZARD and REVERSE does nothing else in ACTIVE, and KEY's change is that
same sample; the one that makes KEY active in SLEEP wakes the part, whose status rounds then carry the
new level (log 35, the model's choice). -/
def Obligations.WiredSamplesAreDebounced : Prop :=
  ∀ (l : PinLevels) (s : State), s.powered = true →
    let u := s.samplePins l
    let moves (p : Pin) : Prop := u.level p ≠ s.level p
    u = { s with pins := u.pins } ∧
    (∀ p, u.pins.get p =
      let r := s.pins.get p
      let raw := match p with
        | .brake => l.brake
        | .hazard => l.hazard
        | .reverse => l.reverse
        | .key => l.key
      if raw = r.level then { raw := raw, level := r.level, count := 0 }
      else if r.count + 1 < 20 then { raw := raw, level := r.level, count := r.count + 1 }
      else { raw := raw, level := raw, count := 0 }) ∧
    (∃ t, exec (.wiredInputSample l) s = .next t ∧ t.pins = u.pins) ∧
    (¬ moves .brake → ¬ moves .hazard → ¬ moves .reverse →
      (s.part = .active → exec (.wiredInputSample l) s = .next (State.settle s u)) ∧
      (moves .key →
        exec (.keyChange l) s = exec (.wiredInputSample l) s ∧
        (s.part = .sleep → u.level .key = true →
          exec (.keyChange l) s = .next (State.settle s u.wakeUp)) ∧
        (s.part = .sleep → u.level .key = false →
          exec (.keyChange l) s = .next (State.settle s u))))

/-- INPUT_ACTIVATION (R46, R107, R163): the sample that makes BRAKE, HAZARD or REVERSE active places a WIRED
entry on each channel bound to it with a duty above 0, STEADY or FLASH with count 0; the FLASH entries of
one activation start an IDLE group together and are joined to a running one; the input's placed set
becomes those channels, which leave the other sets. In SLEEP the part wakes first, with the new level in
its status rounds (log 35, the model's choice). INPUT_DEACTIVATION (R47) in ACTIVE: the sample that makes
the input inactive removes the WIRED entries of its placed set and empties the set; the combined demand
of each such channel is handed over. -/
def Obligations.InputsPlaceAndRemoveEntries : Prop :=
  (∀ (i : WiredInput) (l : PinLevels) (s : State), s.powered = true →
     let p := pinOf i
     let pins := s.samplePins l
     s.level p = false → pins.level p = true →
     (∀ j, j ≠ i → pins.level (pinOf j) = s.level (pinOf j)) →
     let v := pins.awake
     let u := v.activateInput i
     let bound (ch : Ch) : Prop := (s.chan ch).profile.bindInput = some i ∧ 0 < (s.chan ch).profile.bindDuty
     exec (.inputActivation i l) s = exec (.wiredInputSample l) s ∧
     exec (.inputActivation i l) s = .next (State.settle s u) ∧
     (∀ ch, bound ch → u.HandedOver ch ∧ u.slot ch .wired =
       let b := (s.chan ch).profile
       match b.bindMode with
       | .steady => some (.steady b.bindDuty false)
       | .flash g => some (.flash b.bindDuty g 0 0 (decide ((s.group g).phase = .idle)) false)) ∧
     (∀ ch x, ¬ (bound ch ∧ x = Client.wired) → u.slot ch x = s.slot ch x) ∧
     (∀ ch, ¬ bound ch → v.SameWish u ch) ∧
     u.placed.get i = allChannels.filter (fun ch => decide (bound ch)) ∧
     (∀ j, j ≠ i → u.placed.get j = (s.placed.get j).filter fun ch => !decide (bound ch)) ∧
     (∀ g, (s.group g).phase = .idle →
         (∃ ch, bound ch ∧ (s.chan ch).profile.bindMode = .flash g) →
       (u.group g).phase = .onPhase ∧ (u.group g).timer = some (u.group g).onLength) ∧
     (∀ g, ¬ ((s.group g).phase = .idle ∧ ∃ ch, bound ch ∧ (s.chan ch).profile.bindMode = .flash g) →
       u.group g = s.group g) ∧
     State.SameBeyondDemands { v with placed := u.placed } u ∧ u.ports = v.ports ∧ u.quiet = v.quiet) ∧
  (∀ (i : WiredInput) (l : PinLevels) (s : State), s.Running →
     let p := pinOf i
     let v := s.samplePins l
     s.level p = true → v.level p = false →
     (∀ j, j ≠ i → v.level (pinOf j) = s.level (pinOf j)) →
     let u := v.deactivateInput i
     let placed (ch : Ch) : Prop := ch ∈ s.placed.get i
     exec (.inputDeactivation i l) s = exec (.wiredInputSample l) s ∧
     exec (.inputDeactivation i l) s = .next (State.settle s u) ∧
     (∀ ch, placed ch → u.slot ch .wired = none ∧ (s.slot ch .wired ≠ none → u.HandedOver ch)) ∧
     (∀ ch x, ¬ (placed ch ∧ x = Client.wired) → u.slot ch x = s.slot ch x) ∧
     (∀ ch, ¬ placed ch → s.SameWish u ch) ∧
     (∀ j, u.placed.get j = if j = i then [] else s.placed.get j) ∧
     State.SameBeyondDemands { v with placed := u.placed } u ∧
     u.groups = s.groups ∧ u.ports = s.ports ∧ u.quiet = s.quiet)

/-- The place a channel takes in the queue (R54): directly behind the last entry whose class is equal to or
lower than its own, or at the front if there is none. A batch (R55): its channels of classes 1 to 3 enter
WAITING and the queue one after another, ascending in class and within a class in channel number, each
with a fresh ADMIT_DELAY timer; then one examination. An examination (R58, R59, R57): an empty queue ends
it; a head that is blocked or does not fit ends it; a head whose class is below the block level and whose
claims fit both budgets is admitted and the next head judged. When it ends, the head of the queue is
blocked or does not fit. -/
def Obligations.QueuesAreFilledAndExamined : Prop :=
  (∀ (e : QueueEntry) (q : List QueueEntry),
     ∃ front back, q = front ++ back ∧ insertBehind e q = front ++ e :: back ∧
       (∀ x ∈ back, e.cls < x.cls) ∧ (front = [] ∨ ∃ x, front.getLast? = some x ∧ x.cls ≤ e.cls)) ∧
  (∀ (f : Feed) (s : State) (batch : List Ch),
     let ofClass (k : Nat) := batch.filter fun ch => (s.chan ch).profile.cls = k
     let place (t : State) (ch : Ch) : State :=
       let u := t.unit (feedOf ch)
       (t.setChan ch { t.chan ch with st := .waiting }).setUnit (feedOf ch) { u with
         queue := insertBehind { ch := ch, cls := (t.chan ch).profile.cls, delay := some 0 } u.queue }
     s.placeBatch f batch = ((ofClass 1 ++ ofClass 2 ++ ofClass 3).foldl place s).examine f) ∧
  (∀ (f : Feed) (s : State),
     let level (t : State) : Nat := min 4 (min
       (match (t.unit f).hold with
         | some h => h.level
         | none => 4)
       (if (t.monitor f).st = .low ∨ (t.monitor f).st = .surge then 2 else 4))
     let fits (t : State) (e : QueueEntry) : Prop :=
       e.cls < level t ∧ (t.unit f).sumS + (t.chan e.ch).profile.iclaim ≤ (t.unit f).peak ∧
         (t.unit f).sumR + (t.chan e.ch).profile.rclaim ≤ (t.unit f).cont
     ((s.unit f).queue = [] → s.examine f = s) ∧
     (∀ e, (s.unit f).queue.head? = some e → ¬ fits s e → s.examine f = s) ∧
     (∀ e, (s.unit f).queue.head? = some e → feedOf e.ch = f → fits s e →
       s.examine f = ((s.setUnit f { s.unit f with queue := (s.unit f).queue.tail }).admitChannel e.ch).examine f) ∧
     ((∀ e ∈ (s.unit f).queue, feedOf e.ch = f) →
       ∀ e, ((s.examine f).unit f).queue.head? = some e → ¬ fits (s.examine f) e))

/-- An admission (R53, R59 steps 2 to 4, R62, R61, R15, R91, R100, R118), with the counter short of its end:
the claims are added to S and R, the counter rises and stamps the channel, the channel enters RAMPING
with its inrush window; a PWM channel starts a fresh period with the latch made at once, a bridge takes
its pending duty and its sequencer begins in DEAD before drive with every leg off. The renumbering before
the counter would rise past 4,294,967,295 (R61): the feed's other admitted channels keep the order of
their stamps and are numbered from 1, the counter goes on from the last number given, and the stamps of
channels in other states stay as they were. That the counter goes on from 0 where no channel of the feed
is admitted, so that no number is given, is the model's choice (log 37). -/
def Obligations.AdmissionEntersRamping : Prop :=
  (∀ (ch : Ch) (s : State),
     let f := feedOf ch
     let c := s.chan ch
     let p := c.profile
     let u := s.unit f
     let a := appliedDuty (typeOf ch) p.vt (s.monitor f).vavg c.pending
     u.counter < 4294967295 →
     let counted := s.setUnit f { u with
       sumS := u.sumS + p.iclaim, sumR := u.sumR + p.rclaim, counter := u.counter + 1 }
     let ramping := { c with
       st := .ramping, window := some p.window, goodRun := none, stamp := some (u.counter + 1) }
     (bridgeOf ch = none → s.admitChannel ch = counted.setChan ch { ramping with
       applied := a, onTime := onTimeOf (typeOf ch).tmin (p.period.getD 0) a, periodTimer := some ⟨0, 0⟩ }) ∧
     ∀ br, bridgeOf ch = some br → s.admitChannel ch =
       (counted.setChan ch { ramping with applied := c.pending }).setBridge br { s.bridge br with
         st := .dead .beforeDrive
         stageTimer := some p.bridgeFields.deadt
         rest := if (s.bridge br).st = .drive ∨ (s.bridge br).st = .brake ∨
             ((s.bridge br).st = .idle ∧ p.bridgeFields.idle = .brake ∧ (s.bridge br).rest = none)
           then some 0 else (s.bridge br).rest }) ∧
  (∀ (ch : Ch) (s : State),
     let f := feedOf ch
     let t := s.admitChannel ch
     let admitted (x : Ch) : Prop :=
       feedOf x = f ∧ ((s.chan x).st = .ramping ∨ (s.chan x).st = .on)
     (s.unit f).counter = 4294967295 → ¬ admitted ch →
     (∀ x, admitted x → (s.chan x).stamp ≠ none) →
     (∀ x y, admitted x → admitted y → x ≠ y → (s.chan x).stamp ≠ (s.chan y).stamp) →
     (t.unit f).counter = allChannels.countP (fun x => decide (admitted x)) + 1 ∧
     (t.chan ch).stamp = some (t.unit f).counter ∧
     (∀ x, admitted x → ∃ n, (t.chan x).stamp = some n ∧ 1 ≤ n ∧ n < (t.unit f).counter) ∧
     (∀ x y, admitted x → admitted y → (s.chan x).stampNumber < (s.chan y).stampNumber →
       (t.chan x).stampNumber < (t.chan y).stampNumber) ∧
     ∀ x, ¬ admitted x → x ≠ ch → (t.chan x).stamp = (s.chan x).stamp)

/-- INRUSH_WINDOW_EXPIRY (R17, R53, R93): the channel enters ON, the good-run timer starts from 0, the
present claim drops from ICLAIM to RCLAIM in S, and the queue is examined; the drive goes on unchanged.
ADMIT_DELAY (R66, R67): when a queued channel's timer reaches 5,000 ms the timer stops and the event is
offered with the channel's feed, class, position from 1, the block level and the headroom. -/
def Obligations.RampingEndsAndWaitingIsReported : Prop :=
  (∀ (ch : Ch) (s : State),
     let f := feedOf ch
     let c := s.chan ch
     s.Running → c.st = .ramping → c.window = some 0 →
     exec (.inrushWindowExpiry ch) s = .next (State.settle s
       (((s.setChan ch { c with st := .on, window := none, goodRun := some 0 }).setUnit f { s.unit f with
         sumS := (s.unit f).sumS - (c.profile.iclaim - c.profile.rclaim) }).examine f))) ∧
  (∀ (ch : Ch) (n : Nat) (e : QueueEntry) (front back : List QueueEntry) (s : State),
     let f := feedOf ch
     let u := s.unit f
     s.Running → u.queue = front ++ e :: back → e.ch = ch →
     (∀ x ∈ front, x.ch ≠ ch) → (∀ x ∈ back, x.ch ≠ ch) → e.delay = some n → 5000 ≤ n →
     exec (.admitDelay ch) s = .next (State.settle s
       ((s.setUnit f { u with queue := front ++ { e with delay := none } :: back }).offerEvent
         (.admitDelay ch f e.cls (front.length + 1)
           (min 4 (min
             (match u.hold with
               | some h => h.level
               | none => 4)
             (if (s.monitor f).st = .low ∨ (s.monitor f).st = .surge then 2 else 4)))
           (min 255 ((u.peak - u.sumS) / 10))))))

/-- HOLD, UNHOLD and HOLD_EXPIRY (R63, R64, R65): an accepted HOLD sets the record to its sender, clamped
level and clamped time, and the queue is examined; an accepted UNHOLD or a hold that runs out empties the
record, offers HOLD_END and has the queue examined; an UNHOLD of an empty record does nothing. -/
def Obligations.HoldsBeginAndEnd : Prop :=
  ∀ (src : Source) (b level time : Byte) (f : Feed) (s : State), NamesSide b f →
    let mayHold := s.Takes src ∧ (src.client = .engine ∨ src.client = .service)
    let ended (u : State) (h : Hold) (cause : HoldCause) (by_ : Option Client) : State :=
      ((u.setUnit f { u.unit f with hold := none }).offerEvent
        (.holdEnd f h.holder h.level cause by_)).examine f
    (mayHold → (∀ h, (s.unit f).hold = some h → h.holder = src.client) →
      exec (.hold src b level time) s = .next (s.accepted src fun u =>
        (u.setUnit f { u.unit f with
          hold := some ⟨src.client, max 1 (min 3 level.toNat), 100 * max 1 (min 100 time.toNat)⟩ }).examine f)) ∧
    (mayHold → (s.unit f).hold = none →
      exec (.unhold src b) s = .next (s.accepted src fun u => u)) ∧
    (∀ h, (s.unit f).hold = some h → mayHold → (h.holder = src.client ∨ src.client = .service) →
      exec (.unhold src b) s = .next (s.accepted src fun u => ended u h .unhold (some src.client))) ∧
    ∀ h, (s.unit f).hold = some h → s.Running → h.remaining = 0 →
      exec (.holdExpiry f) s = .next (State.settle s (ended s h .expired none))

/-- The heat update of a sample (R69, R70, R73, R77, R81): in every state the latest currents are kept and Q
moves by the floor of (T − Q) / 2^TAU, where T is I × I × 256; only a short trip then raises Q, to at
least Ltrip plus 256. No other channel's Q moves. An interval in which the output did not conduct
delivers RMS 0 and on-current none, whatever the command carries (log 36, how the interval is held). That
the current of an interval which holds the end of conduction enters in every state is the model's reading
(log 9). -/
def Obligations.SamplesUpdateTheHeat : Prop :=
  ∀ (ch : Ch) (rms : Nat) (onCur : Option Nat) (s : State), s.Running →
    let c := s.chan ch
    let full := (typeOf ch).fullScale
    let seen := if c.conducted = true ∨ s.conducts ch = true then onCur else none
    let i := if seen = none then 0 else min full rms
    let o := seen.map fun x => min full x
    let q : Int := c.q + Int.fdiv ((i * i * 256 : Nat) - (c.q : Int)) (2 ^ c.profile.tau)
    let short := (c.st = .ramping ∧ ∃ x, o = some x ∧ c.profile.ishort ≤ x) ∨
      (c.st = .on ∧ ∃ x, o = some x ∧ c.profile.short ≤ x)
    ∃ t, exec (.senseSample ch rms onCur) s = .next t ∧
      (t.chan ch).lastRms = i ∧ (t.chan ch).lastOn = o ∧
      (¬ short → ((t.chan ch).q : Int) = q) ∧
      (short → ((t.chan ch).q : Int) = max q (c.profile.rated * c.profile.rated * 256 + 256)) ∧
      ∀ x, x ≠ ch → (t.chan x).q = (s.chan x).q

/-- A trip (R76 to R80, R18, R53): on a sample of a RAMPING or ON channel the short check comes first, then
the thermal check. The trip releases the claim, clears timers, open-load counters and drive, raises the
trip count, writes the record with Q before the raise, and leaves the channel LOCKED when the count
exceeds RETRIES and TRIPPED otherwise; TRIP is offered, then LOCK when it locks, then a bridge's
DRIVE_END with cause TRIPPED; the queue is examined last. A bridge in DRIVE has stored the tripping
sample's on-current as its last drive current, which that DRIVE_END reports (R120, R123; log 21, the
model's reading). An interval without conduction delivers no current (R70; log 36). -/
def Obligations.SamplesTrip : Prop :=
  ∀ (ch : Ch) (rms : Nat) (onCur : Option Nat) (s : State), s.Running →
    let f := feedOf ch
    let c := s.chan ch
    let p := c.profile
    let full := (typeOf ch).fullScale
    let seen := if c.conducted = true ∨ s.conducts ch = true then onCur else none
    let i := if seen = none then 0 else min full rms
    let o := seen.map fun x => min full x
    let q := ((c.q : Int) + Int.fdiv ((i * i * 256 : Nat) - (c.q : Int)) (2 ^ p.tau)).toNat
    let ltrip := p.rated * p.rated * 256
    let short := ∃ x, o = some x ∧ (if c.st = .ramping then p.ishort else p.short) ≤ x
    let thermal := ltrip < q
    let cause := if short then TripCause.short else TripCause.thermal
    let from_ := if c.st = .ramping then TripFrom.ramping else TripFrom.on
    let n := c.tripCount + 1
    let st := if p.retries < n then ChState.locked else ChState.tripped
    let tripped : Channel := { c with
      st := st, lastRms := i, lastOn := o, tripCount := n
      q := if short then max q (ltrip + 256) else q
      trip := ⟨cause, i, q, (s.monitor f).vavg, from_, c.pending, n⟩
      window := none, goodRun := none, lowCount := 0, goodCount := 0
      applied := 0, onTime := 0, periodTimer := none, conducted := false }
    let kept := match bridgeOf ch with
      | some br => s.storeDriveCurrent br o
      | none => s
    let released := (kept.setUnit f { s.unit f with
        sumS := (s.unit f).sumS - (if c.st = .ramping then p.iclaim else p.rclaim)
        sumR := (s.unit f).sumR - p.rclaim }).setChan ch tripped
    let told := released.offerEvent (.trip ch cause from_ i o n)
    let locked := if st = .locked then told.offerEvent (.lock ch n p.retries) else told
    let dropped := match bridgeOf ch with
      | some br => locked.dropDrive true br .tripped
      | none => locked
    (c.st = .ramping ∨ c.st = .on) → short ∨ thermal →
    exec (.senseSample ch rms onCur) s = .next (State.settle s (dropped.examine f))

/-- A sample outside RAMPING and ON trips nothing and counts nothing (R71, R76, R19, R20); in TRIPPED it
makes the cooling check: at or below Lrestart a channel without a wish goes OFF, one with a wish sends
RETRY with the state it takes and takes it. LOCKED does not act on cooling. The current of an interval
that holds the end of conduction enters Q here as well, against R81's T of 0 (log 9, the model's
reading); an interval without conduction delivers none (R70; log 36). -/
def Obligations.CoolingChannelsRetryOrGoOff : Prop :=
  ∀ (ch : Ch) (rms : Nat) (onCur : Option Nat) (s : State), s.Running →
    let f := feedOf ch
    let c := s.chan ch
    let full := (typeOf ch).fullScale
    let seen := if c.conducted = true ∨ s.conducts ch = true then onCur else none
    let i := if seen = none then 0 else min full rms
    let o := seen.map fun x => min full x
    let q := ((c.q : Int) + Int.fdiv ((i * i * 256 : Nat) - (c.q : Int)) (2 ^ c.profile.tau)).toNat
    let cool := q ≤ c.profile.rated * c.profile.rated * 64
    let sampled : Channel := { c with lastRms := i, lastOn := o, q := q, conducted := false }
    let fs := (s.monitor f).st
    let cls := c.profile.cls
    let suspends := fs = .cut ∨ (fs = .surge ∧ 2 ≤ cls)
    let entered := if suspends then ChState.suspended else if cls = 0 then .ramping else .waiting
    let kept := match bridgeOf ch with
      | some br => s.storeDriveCurrent br o
      | none => s
    let retried := (kept.setChan ch sampled).offerEvent (.retry ch entered c.tripCount q)
    let waits := retried.setChan ch { sampled with st := .waiting }
    let placed := insertBehind { ch := ch, cls := cls, delay := some 0 } (s.unit f).queue
    let outcome (t : State) : Prop := exec (.senseSample ch rms onCur) s = .next (State.settle s t)
    c.st ≠ .ramping → c.st ≠ .on →
    (c.st ≠ .tripped ∨ ¬ cool → outcome (kept.setChan ch sampled)) ∧
    (c.st = .tripped → cool → c.wish = false →
      outcome (kept.setChan ch { sampled with st := .off })) ∧
    (c.st = .tripped → cool → c.wish = true →
      (suspends → outcome (retried.setChan ch { sampled with st := .suspended })) ∧
      (¬ suspends → cls = 0 → outcome (retried.admitChannel ch)) ∧
      (¬ suspends → cls ≠ 0 → outcome ((waits.setUnit f { s.unit f with queue := placed }).examine f)))

/-- Open load (R82 to R84): a sample of an ON channel with OPEN above 0, an on-current and no trip, whose
interval held conduction (R70; log 36), is counted: low below OPEN, good otherwise, each run of its kind
from 0 and held at 100. OPEN_SET is the hundredth low sample with the flag clear, OPEN_CLEAR the
hundredth good one with the flag set; each offers its event with the sample's on-current and OPEN. On a
bridge the stall check of R120 comes behind the count, an order that no rule gives (log 21, the model's
reading). The samples that do not trip and are not counted for open load (R82): those of a RAMPING
channel, and those of an ON channel with OPEN at 0 or without an on-current. The latest currents and Q
are kept; both open-load counters, the flag, the state and everything else stay, and no event is sent,
but that a bridge makes its stall check behind them. An interval without conduction delivers no
on-current (R70; log 36). -/
def Obligations.OpenLoadIsCounted : Prop :=
  (∀ (ch : Ch) (rms x : Nat) (s : State), s.Running →
     let c := s.chan ch
     let p := c.profile
     let full := (typeOf ch).fullScale
     let i := min full rms
     let o := min full x
     let q := ((c.q : Int) + Int.fdiv ((i * i * 256 : Nat) - (c.q : Int)) (2 ^ p.tau)).toNat
     let sampled : Channel := { c with lastRms := i, lastOn := some o, q := q, conducted := false }
     let low := min 100 (c.lowCount + 1)
     let good := min 100 (c.goodCount + 1)
     let counted : Channel := if o < p.openThr then { sampled with lowCount := low, goodCount := 0 }
       else { sampled with lowCount := 0, goodCount := good }
     let sets := o < p.openThr ∧ low = 100 ∧ c.openFlag = false
     let clears := p.openThr ≤ o ∧ good = 100 ∧ c.openFlag = true
     let kept := match bridgeOf ch with
       | some br => s.storeDriveCurrent br (some o)
       | none => s
     let checked (t : State) : State := match bridgeOf ch with
       | some br => t.stallCheck br (some o)
       | none => t
     let outcome (k : Instr) (t : State) : Prop := exec k s = .next (State.settle s (checked t))
     c.conducted = true ∨ s.conducts ch = true →
     c.st = .on → 0 < p.openThr → o < p.short → q ≤ p.rated * p.rated * 256 →
     (¬ sets → ¬ clears → outcome (.senseSample ch rms (some x)) (kept.setChan ch counted)) ∧
     (sets →
       outcome (.openSet ch rms (some x)) ((kept.setChan ch { counted with openFlag := true }).offerEvent
         (.openSet ch o p.openThr)) ∧
       exec (.senseSample ch rms (some x)) s = exec (.openSet ch rms (some x)) s) ∧
     (clears →
       outcome (.openClear ch rms (some x)) ((kept.setChan ch { counted with openFlag := false }).offerEvent
         (.openClear ch o p.openThr)) ∧
       exec (.senseSample ch rms (some x)) s = exec (.openClear ch rms (some x)) s)) ∧
  (∀ (ch : Ch) (rms : Nat) (onCur : Option Nat) (s : State), s.Running →
     let c := s.chan ch
     let p := c.profile
     let full := (typeOf ch).fullScale
     let seen := if c.conducted = true ∨ s.conducts ch = true then onCur else none
     let i := if seen = none then 0 else min full rms
     let o := seen.map fun x => min full x
     let q := ((c.q : Int) + Int.fdiv ((i * i * 256 : Nat) - (c.q : Int)) (2 ^ p.tau)).toNat
     let sampled := s.setChan ch { c with lastRms := i, lastOn := o, q := q, conducted := false }
     (c.st = .ramping ∨ (c.st = .on ∧ (p.openThr = 0 ∨ o = none))) →
     (∀ x, o = some x → x < if c.st = .ramping then p.ishort else p.short) →
     q ≤ p.rated * p.rated * 256 →
     (bridgeOf ch = none → exec (.senseSample ch rms onCur) s = .next (State.settle s sampled)) ∧
     ∀ br, bridgeOf ch = some br → exec (.senseSample ch rms onCur) s =
       .next (State.settle s ((sampled.storeDriveCurrent br o).stallCheck br o)))

/-- PERIOD_START (R89, R90, R98): a RAMPING or ON channel of which a period has begun latches its pending
duty through R97 and R95 with the feed's Vavg of the moment; the pending duty, the state and the position
stay. That the start waits for its latch behind the millisecond in which it fell, the position already
counting in the new period, is the model's choice (log 16); a new on-part is conduction in the sense
interval (R70; log 36). -/
def Obligations.PeriodStartsLatchTheDuty : Prop :=
  ∀ (ch : Ch) (period : Nat) (t : PeriodTimer) (s : State), s.Running →
    let c := s.chan ch
    let a := appliedDuty (typeOf ch) c.profile.vt (s.monitor (feedOf ch)).vavg c.pending
    let on := onTimeOf (typeOf ch).tmin period a
    (c.st = .ramping ∨ c.st = .on) → c.profile.period = some period → c.periodTimer = some t →
    0 < t.starts →
    exec (.periodStart ch) s = .next (State.settle s (s.setChan ch { c with
      periodTimer := some { t with starts := t.starts - 1 }, applied := a, onTime := on
      conducted := c.conducted || decide (0 < on) }))

/-- The applied duty latched at a period start (R97). -/
def Obligations.AppliedDutyIsCompensated : Prop :=
  ∀ (t : ChannelType) (vt vavg p : Nat),
    (t = .lamp → 0 < vt → vt < vavg →
      appliedDuty t vt vavg p = p * vt * vt / (vavg * vavg)) ∧
    (t = .lamp → 0 < vt → vavg ≤ vt → appliedDuty t vt vavg p = p) ∧
    (t = .lamp → vt = 0 → appliedDuty t vt vavg p = p) ∧
    (t ≠ .lamp → appliedDuty t vt vavg p = p) ∧
    appliedDuty t vt vavg p ≤ p ∧ (p ≤ 1000 → appliedDuty t vt vavg p ≤ 1000) ∧
    (p ≤ 1000 → vt ≤ 280 → p * vt * vt ≤ 78400000) ∧
    appliedDuty .lamp 240 285 1 = 0 ∧ appliedDuty .lamp 240 285 2 = 1

/-- The on-time of a period (R95), with Tmin at most half of PERIOD as every type has it, and the duties that
the clamps affect at the default periods. -/
def Obligations.OnTimeIsClamped : Prop :=
  ∀ (tmin period a : Nat) (t : ChannelType),
    let first := period * a / 1000
    (∀ r, t.periodRange = some r → 2 * t.tmin ≤ r.1) ∧
    (∀ d < 1000, 0 < d →
      onTimeOf 40 5000 d = (if d ≤ 7 then 40 else if 993 ≤ d then 4960 else 5 * d) ∧
      onTimeOf 5000 500000 d =
        (if d ≤ 9 then 5000 else if 991 ≤ d then 495000 else 500 * d) ∧
      onTimeOf 2 50 d = (if d ≤ 39 then 2 else if 980 ≤ d then 48 else d / 20)) ∧
    (2 * tmin ≤ period →
      (a = 1000 → onTimeOf tmin period a = period) ∧
      (a = 0 → onTimeOf tmin period a = 0) ∧
      (0 < a → a < 1000 →
        (first < tmin → onTimeOf tmin period a = tmin) ∧
        (tmin ≤ first → tmin ≤ period - first → onTimeOf tmin period a = first) ∧
        (tmin ≤ first → period - first < tmin → onTimeOf tmin period a = period - tmin) ∧
        tmin ≤ onTimeOf tmin period a ∧ onTimeOf tmin period a ≤ period - tmin))

/-- When an output conducts (R11, R70, R89, R159): a lamp, heater or fan with power, RAMPING or ON, in the
on-part of its period, in every other state it is off; a bridge with power while it is in DRIVE. The legs
of a bridge (R115, R125, R159): off without power, in DEAD and in IDLE at FLOAT; one high and one low in
DRIVE by the direction; both low in BRAKE, and in IDLE at BRAKE once the rest timer has reached DEADT. -/
def Obligations.OutputsFollowTheStates : Prop :=
  (∀ (ch : Ch) (s : State),
     (bridgeOf ch = none →
       (s.conducts ch = true ↔ s.powered = true ∧
         ((s.chan ch).st = .ramping ∨ (s.chan ch).st = .on) ∧
         ∃ t, (s.chan ch).periodTimer = some t ∧ t.pos < (s.chan ch).onTime) ∧
       ∀ dest, dest ≠ .ramping → dest ≠ .on → ((s.leaveTo ch dest).conducts ch = false)) ∧
     ∀ br, bridgeOf ch = some br →
       (s.conducts ch = true ↔ s.powered = true ∧ (s.bridge br).st = .drive)) ∧
  (∀ (br : Bridge) (s : State),
     let r := s.bridge br
     (s.powered = false → s.legs br = (.off, .off)) ∧
     (s.powered = true →
       (∀ stage, r.st = .dead stage → s.legs br = (.off, .off)) ∧
       (r.st = .drive → s.legs br = if r.dir = .forward then (.high, .low) else (.low, .high)) ∧
       (r.st = .brake → s.legs br = (.low, .low)) ∧
       (r.st = .idle → s.legs br =
         if (s.bridgeProfile br).idle = .brake ∧ r.rest = none then (.low, .low) else (.off, .off))))

/-- An accepted DRIVE (R37, R39, R117, R122): the sender becomes or stays the owner, the entry is recorded
with a clear ending mark, and the sequencer acts by its stage: nothing before DRIVE, a prolonged drive in
the same direction, a reversal through DEAD before brake in the other, a waiting re-drive in the ending
stages. The combined demand is handed over. Stated where the channel's wish does not begin by it. A DRIVE
accepted on an idle bridge without an owner (R39, R13, R14, R15, R54, R123): the owner and the entry are
set and the channel's wish begins. From OFF the channel is SUSPENDED, or WAITING or RAMPING behind the
queue's examination, or RAMPING by the class 0 bypass; a TRIPPED or LOCKED channel only records the wish,
the owner keeping its entry. -/
def Obligations.DrivesBegin : Prop :=
  (∀ (src : Source) (b way : Byte) (n : Half) (br : Bridge) (s : State),
     let ch := bridgeChannel br
     let r := s.bridge br
     let dir := if way = 0 then Direction.forward else .reverse
     let dur := min 1000 n.toNat
     let timer := if dur = 0 then 10000 else 10 * dur
     s.Takes src → NamesChannel b ch → s.MayDemand src.client ch →
     r.owner = none ∨ r.owner = some src.client →
     (s.chan ch).wish = true → (s.chan ch).inhibited = false → (s.chan ch).pending = 1000 →
     (∀ cl, cl ≠ src.client → s.slot ch cl = none) →
     let outcome (r' : BridgeRecord) : Prop := exec (.drive src b way n) s =
       .next (s.accepted src fun u => (u.setSlot ch src.client (some (.drive dir dur false))).setBridge br
         { r' with owner := some src.client })
     (r.st = .idle ∨ r.st = .dead .beforeDrive → outcome r) ∧
     (r.st = .drive → dir = r.dir →
       outcome { r with driveTimer := some timer, openEnded := decide (dur = 0) }) ∧
     (r.st = .drive → dir ≠ r.dir → outcome { r with
       st := .dead .beforeBrake, stageTimer := some (s.bridgeProfile br).deadt
       driveTimer := none, redrive := true, rest := some 0 }) ∧
     (r.st = .dead .beforeBrake ∨ r.st = .brake ∨ r.st = .dead .afterBrake →
       outcome { r with redrive := true, ending := none })) ∧
  (∀ (src : Source) (b way : Byte) (n : Half) (br : Bridge) (s : State),
     let ch := bridgeChannel br
     let r := s.bridge br
     let dir := if way = 0 then Direction.forward else .reverse
     let fs := (s.monitor .a).st
     let cls := (s.chan ch).profile.cls
     s.Takes src → NamesChannel b ch → s.MayDemand src.client ch → r.owner = none → r.st = .idle →
     (s.chan ch).wish = false → (∀ cl, s.slot ch cl = none) →
     let told (u : State) : State :=
       ((u.setSlot ch src.client (some (.drive dir (min 1000 n.toNat) false))).setBridge br
         { r with owner := some src.client }).setChan ch { u.chan ch with
           wish := true, inhibited := false, pending := 1000 }
     let outcome (f : State → State) : Prop := exec (.drive src b way n) s = .next (s.accepted src f)
     ((s.chan ch).st = .tripped ∨ (s.chan ch).st = .locked → outcome told) ∧
     ((s.chan ch).st = .off →
       (fs = .cut ∨ (fs = .surge ∧ 2 ≤ cls) →
         outcome fun u => (told u).setChan ch { (told u).chan ch with st := .suspended }) ∧
       (fs ≠ .cut → cls = 0 → outcome fun u => (told u).admitChannel ch) ∧
       (fs ≠ .cut → ¬ (fs = .surge ∧ 2 ≤ cls) → 1 ≤ cls → outcome fun u =>
         let w := (told u).setChan ch { (told u).chan ch with st := .waiting }
         (w.setUnit .a { w.unit .a with
           queue := insertBehind { ch := ch, cls := cls, delay := some 0 } (w.unit .a).queue }).examine .a)))

/-- DEAD_BEFORE_DRIVE_EXPIRY, and DEAD_AFTER_BRAKE_EXPIRY with the re-drive mark set (R118, R122): DRIVE in
the direction of the owner's entry as it stands, stall counter and driven time 0, last drive current
none, the drive timer from the entry's duration or 10,000 ms for an open-ended one. The ending stages
(R121, R125): DEAD before brake runs out into BRAKE for BRAKET; BRAKE into DEAD after brake with every
leg off for DEADT; the rest timer stops when it reaches DEADT. -/
def Obligations.BridgeStagesFollow : Prop :=
  (∀ (br : Bridge) (cl : Client) (dir : Direction) (n : Nat) (e : Bool) (s : State), s.Running →
     let r := s.bridge br
     let driving := State.settle s (s.setBridge br { r with
       st := .drive, dir := dir, stageTimer := none, stall := 0, driven := 0, lastDrive := none
       driveTimer := some (if n = 0 then 10000 else n * 10), openEnded := decide (n = 0)
       redrive := false, rest := none })
     r.owner = some cl → s.slot (bridgeChannel br) cl = some (.drive dir n e) → r.stageTimer = some 0 →
     (r.st = .dead .beforeDrive → exec (.deadBeforeDriveExpiry br) s = .next driving) ∧
     (r.st = .dead .afterBrake → r.redrive = true → exec (.deadAfterBrakeExpiry br) s = .next driving)) ∧
  (∀ (br : Bridge) (n : Nat) (s : State), s.Running →
     let r := s.bridge br
     let p := s.bridgeProfile br
     let outcome (c : Instr) (r' : BridgeRecord) : Prop :=
       exec c s = .next (State.settle s (s.setBridge br r'))
     (r.st = .dead .beforeBrake → r.stageTimer = some 0 → outcome (.deadBeforeBrakeExpiry br)
       { r with st := .brake, stageTimer := some p.braket, rest := none }) ∧
     (r.st = .brake → r.stageTimer = some 0 → outcome (.brakeExpiry br)
       { r with st := .dead .afterBrake, stageTimer := some p.deadt, rest := some 0 }) ∧
     (r.rest = some n → p.deadt ≤ n → outcome (.restTimerExpiry br) { r with rest := none }))

/-- The ends from DRIVE (R119, R120, R121, R126): the drive timer runs out (TIME, or MAXTIME of an open-ended
drive), the stall counter reaches STALLT on a sample of an ON channel, or the owner releases: the entry's
ending mark is set, DRIVE_END is offered with the drive's own figures, and the bridge is in DEAD before
brake with every leg off for DEADT. A sample below STALL or without an on-current sets the counter to 0,
one in RAMPING leaves it, and with STALL at 0 it stays at 0 (R120). The stall check comes behind the
sample's open-load count, `State.openCheck`, which OpenLoadIsCounted states (log 21, the model's
reading); the open-ended mark is left as it was (log 32, the model's choice). -/
def Obligations.DrivesEndThroughDead : Prop :=
  ∀ (br : Bridge) (cl : Client) (dir : Direction) (n rms : Nat) (onCur : Option Nat) (b : Byte)
    (port : Port) (s : State),
    let ch := bridgeChannel br
    let r := s.bridge br
    let c := s.chan ch
    let p := s.bridgeProfile br
    s.Running → r.st = .drive → r.owner = some cl → s.slot ch cl = some (.drive dir n false) →
    let ends (u : State) (cause : DriveCause) : State :=
      let v := (u.setSlot ch cl (some (.drive dir n true))).offerEvent
        (.driveEnd ch cause cl r.dir r.driven (u.bridge br).lastDrive)
      v.setBridge br { u.bridge br with
        st := .dead .beforeBrake, stageTimer := some p.deadt, driveTimer := none, redrive := false
        ending := some cause, rest := some 0 }
    (r.driveTimer = some 0 → exec (.driveTimerExpiry br) s =
      .next (State.settle s (ends s (if r.openEnded = true then .maxtime else .time)))) ∧
    (s.Takes ⟨port, cl⟩ → NamesChannel b ch → (c.st = .ramping ∨ c.st = .on) →
      exec (.release ⟨port, cl⟩ b) s = .next (s.accepted ⟨port, cl⟩ fun u => ends u .released)) ∧
    (let i := if onCur = none then 0 else min 600 rms
     let x := onCur.map fun k => min 600 k
     let q := ((c.q : Int) + Int.fdiv ((i * i * 256 : Nat) - (c.q : Int)) (2 ^ c.profile.tau)).toNat
     let sampled := (s.setChan ch { c with lastRms := i, lastOn := x, q := q, conducted := false }).setBridge br
       { r with lastDrive := x }
     let counts (k : Nat) : State :=
       (sampled.openCheck ch x).setBridge br { r with lastDrive := x, stall := k }
     let samples (t : State) : Prop := exec (.senseSample ch rms onCur) s = .next (State.settle s t)
     let high := ∃ k, x = some k ∧ p.stall ≤ k
     (c.st = .ramping ∨ c.st = .on) →
     (∀ k, x = some k → k < if c.st = .ramping then c.profile.ishort else c.profile.short) →
     q ≤ c.profile.rated * c.profile.rated * 256 →
     (p.stall = 0 → samples (counts 0)) ∧
     (0 < p.stall → c.st = .ramping → samples (counts r.stall)) ∧
     (0 < p.stall → c.st = .on →
       (¬ high → samples (counts 0)) ∧
       (high → r.stall + 1 < p.stallt → samples (counts (r.stall + 1))) ∧
       (high → p.stallt ≤ r.stall + 1 →
         samples (ends (counts (r.stall + 1)) .stall) ∧
         exec (.stallEnd br rms onCur) s = exec (.senseSample ch rms onCur) s)))

/-- The end of a DRIVE entry handed over with cause RELEASED or LOST (R39, R121, R126): with the ending mark
set it does nothing; from the DRIVE stage the bridge goes to DEAD before brake with every leg off and
DRIVE_END of the drive's own figures; in the ending stages with a re-drive waiting it cancels the
re-drive with a DRIVE_END of driven time 0; in DEAD before drive, or on a channel that is not RAMPING or
ON, the entry and the owner go at once with that same event. The open-ended mark is left as it was (log
32, the model's choice). -/
def Obligations.HandedEndsActByTheStage : Prop :=
  ∀ (cl : Client) (cause : DriveCause) (br : Bridge) (dir : Direction) (n : Nat) (e : Bool) (s : State),
    let ch := bridgeChannel br
    let r := s.bridge br
    let c := s.chan ch
    let admitted := c.st = .ramping ∨ c.st = .on
    let t := s.endEntry ch cl cause
    r.owner = some cl → s.slot ch cl = some (.drive dir n e) →
    let marked := s.setSlot ch cl (some (.drive dir n true))
    let told := marked.offerEvent (.driveEnd ch cause cl dir 0 none)
    (e = true → t = s) ∧
    (e = false → admitted → r.st = .drive → t =
      (marked.offerEvent (.driveEnd ch cause cl r.dir r.driven r.lastDrive)).setBridge br { r with
        st := .dead .beforeBrake, stageTimer := some (s.bridgeProfile br).deadt, driveTimer := none
        redrive := false, ending := some cause, rest := some 0 }) ∧
    (e = false → admitted → r.redrive = true →
      r.st = .dead .beforeBrake ∨ r.st = .brake ∨ r.st = .dead .afterBrake →
      t = told.setBridge br { r with redrive := false, ending := some cause }) ∧
    (e = false → (admitted ∧ r.st = .dead .beforeDrive) ∨ (¬ admitted ∧ r.st = .idle) →
      t.ports = told.ports ∧ t.slot ch cl = none ∧
      (∀ x y, ¬ (x = ch ∧ y = cl) → t.slot x y = s.slot x y) ∧
      (s.AdmissionKept → (∀ y, y ≠ cl → s.slot ch y = none) → c.wish = true →
        c.st ≠ .tripped → c.st ≠ .locked → (t.chan ch).st = .off) ∧
      (s.AdmissionKept → s.BridgesKept → t.bridge br = { r with
        st := .idle, stageTimer := none, driveTimer := none
        redrive := false, ending := none, owner := none }) ∧
      t.HandedOver ch ∧ (∀ x, x ≠ ch → s.SameWish t x) ∧ t.groups = s.groups ∧ t.quiet = s.quiet ∧
      s.SameBeyondDemands t)

/-- The end of a drive (R121 step 5, R117, R16): when DEAD after brake runs out without a re-drive the bridge
is IDLE, the ending cause none, the owner's entry removed and the owner cleared, and the channel's new
combined demand handed over: with no other entry it goes OFF. No event is sent. The premises that the
admission units and the bridges agree with the channels rule out states no run reaches. A trip or a
supply end of a bridge (R123, R124, R126): DRIVE_END with the cause and the figures of the drive that
ended (0, none and the entry's direction before its DRIVE stage), every leg off, IDLE, timers and marks
cleared, the owner's entry removed and the owner cleared, the rest timer from 0 if a switch was on; the
combined demand is handed over. The open-ended mark is left as it was (log 32, the model's choice). -/
def Obligations.DrivesAreOver : Prop :=
  (∀ (br : Bridge) (cl : Client) (dir : Direction) (n : Nat) (e : Bool) (s : State), s.Running →
     let ch := bridgeChannel br
     let r := s.bridge br
     r.st = .dead .afterBrake → r.stageTimer = some 0 → r.redrive = false → r.owner = some cl →
     s.slot ch cl = some (.drive dir n e) → s.AdmissionKept → s.BridgesKept →
     let u := State.endDeadAfterBrake br s
     exec (.deadAfterBrakeExpiry br) s = .next (State.settle s u) ∧
     u.bridge br = { r with
       st := .idle, stageTimer := none, driveTimer := none, ending := none, owner := none, rest := none } ∧
     u.slot ch cl = none ∧ (∀ x y, ¬ (x = ch ∧ y = cl) → u.slot x y = s.slot x y) ∧
     u.HandedOver ch ∧ (∀ x, x ≠ ch → s.SameWish u x) ∧
     ((∀ y, y ≠ cl → s.slot ch y = none) → (s.chan ch).wish = true →
       (s.chan ch).st = .ramping ∨ (s.chan ch).st = .on → (u.chan ch).st = .off) ∧
     u.groups = s.groups ∧ u.ports = s.ports ∧ u.quiet = s.quiet ∧ s.SameBeyondDemands u) ∧
  (∀ (br : Bridge) (examined : Bool) (cause : DriveCause) (cl : Client) (dir : Direction) (n : Nat)
     (e : Bool) (s : State),
     let ch := bridgeChannel br
     let r := s.bridge br
     let undriven := r.st = .idle ∨ r.st = .dead .beforeDrive
     let u := s.dropDrive examined br cause
     r.owner = some cl → s.slot ch cl = some (.drive dir n e) → s.AdmissionKept →
     u.ports = (s.offerEvent (if undriven then .driveEnd ch cause cl dir 0 none
       else .driveEnd ch cause cl r.dir r.driven r.lastDrive)).ports ∧
     u.slot ch cl = none ∧ (∀ x y, ¬ (x = ch ∧ y = cl) → u.slot x y = s.slot x y) ∧
     u.HandedOver ch ∧ (∀ x, x ≠ ch → s.SameWish u x) ∧
     ((∀ y, y ≠ cl → s.slot ch y = none) → (s.chan ch).wish = true →
       (u.bridge br).st = .idle ∧ (u.bridge br).owner = none ∧ (u.bridge br).ending = none ∧
       (u.bridge br).redrive = false ∧ (u.bridge br).stageTimer = none ∧
       (u.bridge br).driveTimer = none ∧
       (r.st = .drive ∨ r.st = .brake → (u.bridge br).rest = some 0) ∧
       (u.chan ch).st = match (s.chan ch).st with
         | .tripped => .tripped
         | .locked => .locked
         | _ => .off) ∧
     u.groups = s.groups ∧ u.quiet = s.quiet ∧ s.SameBeyondDemands u)

/-- FLASH_CFG (R104): the clamped PERIOD and ON share go to the pending configuration, and on an IDLE group
to the current one as well. FEED_CFG from SERVICE on a feed whose channels are all OFF (R52): the clamped
figures, then every channel's claims clamped to them, nothing else; the queue, empty as it is, is
examined without effect. -/
def Obligations.ConfigurationsAreWritten : Prop :=
  (∀ (src : Source) (b : Byte) (period share : Half) (g : Sys2Proof.Group) (s : State),
     s.Takes src → NamesSide b g → src.client = .body ∨ src.client = .service →
     let p := max 200 (min 2000 period.toNat)
     let o := max 300 (min 700 share.toNat)
     exec (.flashCfg src b period share) s = .next (s.accepted src fun u => u.setGroup g
       (if (u.group g).phase = .idle then
         { u.group g with curPeriod := p, curOn := o, pendPeriod := p, pendOn := o }
       else { u.group g with pendPeriod := p, pendOn := o }))) ∧
  (∀ (port : Port) (b : Byte) (peak cont vshed : Half) (f : Feed) (s : State),
     let src : Source := ⟨port, .service⟩
     let p := max 100 (min 4000 peak.toNat)
     let c := min (max 100 (min 4000 cont.toNat)) p
     s.Takes src → NamesSide b f → (∀ ch, feedOf ch = f → (s.chan ch).st = .off) →
     (s.unit f).queue = [] →
     ∃ t, exec (.feedCfg src b peak cont vshed) s = .next t ∧
       t.unit f = { s.unit f with peak := p, cont := c, vshed := max 160 (min 240 vshed.toNat) } ∧
       (∀ g, g ≠ f → t.unit g = s.unit g) ∧
       (∀ ch, t.chan ch = if feedOf ch = f then { s.chan ch with
           profile := { (s.chan ch).profile with
             iclaim := min (s.chan ch).profile.iclaim p
             rclaim := min (s.chan ch).profile.rclaim (min (min (s.chan ch).profile.iclaim p) c) } }
         else s.chan ch) ∧
       t.quiet = some 0 ∧ t.RestHanded ∧
       t = { s.heard src with
         adm := t.adm, chans := t.chans, quiet := t.quiet, restCh := t.restCh, restIn := t.restIn })

/-- The lengths of a cycle's phases (R105). -/
def Obligations.PhaseLengths : Prop :=
  ∀ (r : FlashGroup),
    let p := if r.fast = true then r.curPeriod / 2 else r.curPeriod
    r.effective = p ∧ r.onLength = p * r.curOn / 1000 ∧ r.offLength = p - p * r.curOn / 1000 ∧
    (200 ≤ r.curPeriod → r.curPeriod ≤ 2000 → 300 ≤ r.curOn → r.curOn ≤ 700 →
      30 ≤ r.onLength ∧ 30 ≤ r.offLength ∧ r.onLength + r.offLength = p) ∧
    let phases (period share : Nat) (fast : Bool) : Nat × Nat × Nat :=
      let q := { r with curPeriod := period, curOn := share, fast := fast }
      (q.effective, q.onLength, q.offLength)
    phases 667 500 false = (667, 333, 334) ∧ phases 667 500 true = (333, 166, 167) ∧
    phases 800 600 false = (800, 480, 320) ∧ phases 800 600 true = (400, 240, 160) ∧
    phases 2000 700 false = (2000, 1400, 600) ∧ phases 201 300 true = (100, 30, 70)

/-- ON_PHASE_END and FLASH_DONE (R111, R113): the group is in OFF_PHASE for its length; each started entry of
the group with a count above 0 counts one flash, and one that reaches 0 is removed with FLASH_DONE, in
ascending order of channel and client; every channel that held an entry of the group is handed its new
combined demand. OFF_PHASE_END (R109, R110, R112): without an entry the group goes IDLE with its pending
configuration; with entries a new cycle starts with it, the fast flag computed anew from the OPEN flags
of the channels that hold entries, ON_PHASE for its length, every entry of the group started, and each
such channel handed its combined demand. -/
def Obligations.PhasesEnd : Prop :=
  (∀ (g : Sys2Proof.Group) (s : State),
     let u := s.endOnPhase g
     let done (x : Ch × Client) : Option Event :=
       match s.slot x.1 x.2 with
       | some (.flash _ h n r true _) =>
         if h = g ∧ 0 < n ∧ r ≤ 1 then some (.flashDone x.1 x.2 g n) else none
       | _ => none
     let due := s.Running ∧ (s.group g).phase = .onPhase ∧ (s.group g).timer = some 0
     (due → exec (.onPhaseEnd g) s = .next (State.settle s u)) ∧
     (due → ∀ ch cl, (done (ch, cl)).isSome = true →
       exec (.flashDone g ch cl) s = exec (.onPhaseEnd g) s ∧ u.slot ch cl = none) ∧
     u.group g = { s.group g with phase := .offPhase, timer := some (s.group g).offLength } ∧
     (∀ h, h ≠ g → u.group h = s.group h) ∧
     (∀ ch cl, u.slot ch cl = match s.slot ch cl with
       | some (.flash d h n r true held) =>
         if h = g ∧ 0 < n then (if r ≤ 1 then none else some (.flash d h n (r - 1) true held))
         else some (.flash d h n r true held)
       | e => e) ∧
     (∀ ch, (∃ cl, ((s.slot ch cl).bind Entry.flashGroup) = some g) → u.HandedOver ch) ∧
     (∀ ch, (∀ cl, ((s.slot ch cl).bind Entry.flashGroup) ≠ some g) → s.SameWish u ch) ∧
     u.ports = ((allSlots.filterMap done).foldl State.offerEvent s).ports ∧
     u.quiet = s.quiet ∧ s.SameBeyondDemands u) ∧
  (∀ (g : Sys2Proof.Group) (s : State), s.Running →
     (s.group g).phase = .offPhase → (s.group g).timer = some 0 →
     let r := s.group g
     let holds (ch : Ch) : Prop := ∃ cl, ((s.slot ch cl).bind Entry.flashGroup) = some g
     let taken : FlashGroup := { r with curPeriod := r.pendPeriod, curOn := r.pendOn }
     ((∀ ch, ¬ holds ch) → exec (.offPhaseEnd g) s = .next (State.settle s
       (s.setGroup g { taken with phase := .idle, timer := none, fast := false }))) ∧
     ((∃ ch, holds ch) →
       let u := s.endOffPhase g
       let cycle : FlashGroup := { taken with
         fast := allChannels.any fun ch => (s.chan ch).openFlag &&
           Client.all.any fun cl => ((s.slot ch cl).bind Entry.flashGroup) = some g }
       exec (.offPhaseEnd g) s = .next (State.settle s u) ∧
       u.group g = { cycle with phase := .onPhase, timer := some cycle.onLength } ∧
       (∀ h, h ≠ g → u.group h = s.group h) ∧
       (∀ ch cl, u.slot ch cl = match s.slot ch cl with
         | some (.flash d h n k st held) =>
           if h = g then some (.flash d h n k true held) else some (.flash d h n k st held)
         | e => e) ∧
       (∀ ch, holds ch → u.HandedOver ch) ∧ (∀ ch, ¬ holds ch → s.SameWish u ch) ∧
       u.ports = s.ports ∧ u.quiet = s.quiet ∧ s.SameBeyondDemands u))

/-- The seven counters of consecutive samples (R130): each condition's counter rises by 1 to its limit, and
is set to 0 by a sample that breaks the condition. -/
def Obligations.CountersOfConsecutiveSamples : Prop :=
  ∀ (c : Counters) (voltage current vshed cont : Nat) (m : Monitor) (st : FeedState),
    let counter (limit n : Nat) (met : Prop) (n' : Nat) : Prop :=
      (met → n < limit → n' = n + 1) ∧ (met → n = limit → n' = limit) ∧ (¬ met → n' = 0)
    let d := c.update voltage current vshed cont
    counter 5 c.belowCut (voltage < 100) d.belowCut ∧
    counter 50 c.aboveResume (120 ≤ voltage) d.aboveResume ∧
    counter 200 c.belowShed (voltage < vshed) d.belowShed ∧
    counter 2000 c.aboveShed (vshed + 10 ≤ voltage) d.aboveShed ∧
    counter 2 c.surge (340 < voltage) d.surge ∧
    counter 100 c.surgeClear (voltage ≤ 320) d.surgeClear ∧
    counter 1000 c.overload (cont < current) d.overload ∧
    (m.takeSample voltage current vshed cont).counters =
      m.counters.update voltage current vshed cont ∧
    (m.enter st).counters = ⟨0, 0, 0, 0, 0, 0, 0⟩

/-- A feed sample (R129, R130, R131, R138, R137): the converter's values, the window of sixteen, Vavg and the
counters from the budgets of the moment. Without a change of state and without a full overload counter or
a restore, only the restore timer of a NORMAL feed moves besides. Which change the counters call for is
the first row of the present state. -/
def Obligations.FeedSamplesMeasure : Prop :=
  ∀ (f : Feed) (voltage current : Nat) (s : State), s.Running →
    let m := s.monitor f
    let v := min 450 voltage
    let i := min 4000 current
    let w := if m.window.length = 16 then m.window.tail ++ [v] else m.window ++ [v]
    let c := m.counters.update v i (s.unit f).vshed (s.unit f).cont
    let sampled : Monitor := { m with
      voltage := v, current := i, window := w, vavg := w.sum / w.length, counters := c }
    let u := s.setMonitor f sampled
    let change : Option FeedState :=
      match m.st with
      | .normal => if c.belowCut = 5 then some .cut else if c.surge = 2 then some .surge
        else if c.belowShed = 200 then some .low else none
      | .low => if c.belowCut = 5 then some .cut else if c.surge = 2 then some .surge
        else if c.aboveShed = 2000 then some .normal else none
      | .surge => if c.belowCut = 5 then some .cut else if c.surgeClear = 100 then some .normal else none
      | .cut => if c.aboveResume = 50 then some .normal else none
    s.takeFeedSample f voltage current = u ∧ u.feedChangeDue f = change ∧
    (change = none → c.overload ≠ 1000 →
      (m.st ≠ .normal ∨ m.restoreTimer = none ∨ m.restoreTimer = some 2000 →
        exec (.feedSample f voltage current) s = .next (State.settle s u)) ∧
      (m.st = .normal → ∀ n, m.restoreTimer = some n → n < 2000 → (i ≤ (s.unit f).cont → n ≠ 1999) →
        exec (.feedSample f voltage current) s = .next (State.settle s (u.setMonitor f { sampled with
          restoreTimer := some (if i ≤ (s.unit f).cont then n + 1 else 0) }))))

/-- A change of feed state (R131): the new state with every counter at 0, the shed step timer from 0 on entry
to LOW and the restore timer from 0 on entry to NORMAL, the other stopped; FEED_STATE with the number of
channels moved, shed or resumed; the action of the new state on the channels; then the examination. A
bridge that takes the supply end is not counted, and a LOW step's victim is (log 10, the model's
reading). -/
def Obligations.FeedStateChangesAct : Prop :=
  ∀ (f : Feed) (voltage current : Nat) (new : FeedState) (s : State), s.Running →
    let u := s.takeFeedSample f voltage current
    let m := u.monitor f
    u.feedChangeDue f = some new →
    let entered := u.setMonitor f { m with
      st := new, counters := ⟨0, 0, 0, 0, 0, 0, 0⟩
      shedTimer := if new = .low then some 0 else none
      restoreTimer := if new = .normal then some 0 else none }
    let moved (ch : Ch) : Bool := feedOf ch = f && bridgeOf ch = none &&
      match new, (s.chan ch).st with
      | .cut, .waiting => true
      | .cut, .ramping => true
      | .cut, .on => true
      | .cut, .shed => true
      | .surge, .waiting => 2 ≤ (s.chan ch).profile.cls
      | .surge, .ramping => 2 ≤ (s.chan ch).profile.cls
      | .surge, .on => 2 ≤ (s.chan ch).profile.cls
      | _, _ => false
    let resumed (ch : Ch) : Bool := new = .normal && feedOf ch = f && (s.chan ch).st = .suspended
    let number := match new with
      | .low => if (s.victim f).isSome then 1 else 0
      | _ => allChannels.countP fun ch => moved ch || resumed ch
    let told := entered.offerEvent (.feedState f m.st new m.voltage m.vavg number)
    exec (.feedSample f voltage current) s =
      .next (State.settle s ((told.actOnChange f new).examine f)) ∧
    exec (.feedStateChange f voltage current) s = exec (.feedSample f voltage current) s

/-- What an entry to CUT or SURGE does to the channels (R132, R133, R124): at CUT every lamp, heater and fan
of the feed that is WAITING, RAMPING, ON or SHED is SUSPENDED, at SURGE those of class 2 and 3 that are
WAITING, RAMPING or ON, with timers, open-load counters and drive cleared when they leave RAMPING or ON;
a bridge that is WAITING, RAMPING or ON, at CUT also SUSPENDED, with its owner's DRIVE entry takes the
supply end and goes OFF. Every other channel of the feed (OFF, TRIPPED, LOCKED and the rest) and the
other feed's stay as they were in every field, a bridge with its sequencer, its DRIVE entry and its
owner; no lamp, heater or fan loses an entry. The premises rule out states no run reaches. The resume at
an entry to NORMAL (R135, R55): every SUSPENDED channel of the feed, class 0 by the bypass in ascending
order, the others as one batch; afterwards none is SUSPENDED. -/
def Obligations.FeedsSuspendAndResume : Prop :=
  (∀ (f : Feed) (s : State), s.AdmissionKept → s.BridgesKept →
     let cut := s.actOnChange f .cut
     let surge := s.actOnChange f .surge
     let runs (ch : Ch) : Prop := (s.chan ch).st = .waiting ∨ (s.chan ch).st = .ramping ∨
       (s.chan ch).st = .on
     let cutActs (ch : Ch) : Prop := feedOf ch = f ∧ (runs ch ∨
       (bridgeOf ch = none ∧ (s.chan ch).st = .shed) ∨ (bridgeOf ch ≠ none ∧ (s.chan ch).st = .suspended))
     let surgeActs (ch : Ch) : Prop := feedOf ch = f ∧ runs ch ∧ 2 ≤ (s.chan ch).profile.cls
     let suspended (c : Channel) : Channel := match c.st with
       | .ramping => { c with st := .suspended, window := none, goodRun := none, lowCount := 0
                              goodCount := 0, applied := 0, onTime := 0, periodTimer := none }
       | .on => { c with st := .suspended, window := none, goodRun := none, lowCount := 0
                         goodCount := 0, applied := 0, onTime := 0, periodTimer := none }
       | _ => { c with st := .suspended }
     let untouched (t : State) (ch : Ch) : Prop := t.chan ch = s.chan ch ∧
       (∀ cl, t.slot ch cl = s.slot ch cl) ∧ ∀ br, bridgeOf ch = some br → t.bridge br = s.bridge br
     let owned (br : Bridge) : Prop := (s.chan (bridgeChannel br)).wish = true ∧
       ∃ cl, (s.bridge br).owner = some cl ∧
         ((s.slot (bridgeChannel br) cl).map Entry.isDrive) = some true ∧
         ∀ y, y ≠ cl → s.slot (bridgeChannel br) y = none
     let ended (t : State) (br : Bridge) : Prop := (t.chan (bridgeChannel br)).st = .off ∧
       (t.bridge br).st = .idle ∧ (t.bridge br).owner = none ∧ ∀ cl, t.slot (bridgeChannel br) cl = none
     (∀ ch, (¬ cutActs ch → untouched cut ch) ∧ (¬ surgeActs ch → untouched surge ch)) ∧
     (∀ ch, bridgeOf ch = none →
       (cutActs ch → cut.chan ch = suspended (s.chan ch) ∧ ∀ cl, cut.slot ch cl = s.slot ch cl) ∧
       (surgeActs ch → surge.chan ch = suspended (s.chan ch) ∧ ∀ cl, surge.slot ch cl = s.slot ch cl)) ∧
     (∀ br, owned br → (cutActs (bridgeChannel br) → ended cut br) ∧
       (surgeActs (bridgeChannel br) → ended surge br)) ∧
     ((∀ br, feedOf (bridgeChannel br) = f → owned br ∨ (s.chan (bridgeChannel br)).st = .off ∨
         (s.chan (bridgeChannel br)).st = .tripped ∨ (s.chan (bridgeChannel br)).st = .locked) →
       (cut.unit f).queue = [] ∧ (cut.unit f).sumS = 0 ∧ (cut.unit f).sumR = 0)) ∧
  (∀ (f : Feed) (s : State),
     let chs := (channelsOf f).filter fun ch => (s.chan ch).st = .suspended
     let zero := chs.filter fun ch => (s.chan ch).profile.cls = 0
     let others := chs.filter fun ch => (s.chan ch).profile.cls ≠ 0
     let u := s.actOnChange f .normal
     u = (zero.foldl State.admitChannel s).placeBatch f others ∧
     (s.AdmissionKept → ∀ ch ∈ chs,
       ((s.chan ch).profile.cls = 0 → (u.chan ch).st = .ramping) ∧
       ((s.chan ch).profile.cls ≠ 0 → (u.chan ch).st = .waiting ∨ (u.chan ch).st = .ramping)))

/-- The victim of a shed (R136): among the feed's RAMPING and ON channels the class 3 one with the largest
stamp, else the class 2 one, else none. A shed (R136, R134, R53, R94): the restore timer set to 0, SHED
offered with the victim's class and its place among the admitted channels of the feed, the channel in
SHED with its claim released, its timers and drive cleared; a bridge takes the supply end instead; then
the examination. Without a victim nothing is shed. SHED_STEP restarts its timer and sheds one. -/
def Obligations.ShedsTakeOneVictim : Prop :=
  (∀ (f : Feed) (s : State),
     let candidate (cls : Nat) (ch : Ch) : Prop := feedOf ch = f ∧
       ((s.chan ch).st = .ramping ∨ (s.chan ch).st = .on) ∧ (s.chan ch).profile.cls = cls
     (s.victim f = none ↔ ∀ ch, ¬ candidate 3 ch ∧ ¬ candidate 2 ch) ∧
     (∀ ch, s.victim f = some ch →
       (candidate 3 ch ∧ ∀ x, candidate 3 x → (s.chan x).stampNumber ≤ (s.chan ch).stampNumber) ∨
       ((∀ x, ¬ candidate 3 x) ∧ candidate 2 ch ∧
         ∀ x, candidate 2 x → (s.chan x).stampNumber ≤ (s.chan ch).stampNumber))) ∧
  (∀ (f : Feed) (cause : ShedCause) (n : Nat) (s : State),
     let m := s.monitor f
     (s.Running → m.st = .low → m.shedTimer = some n → 200 ≤ n → exec (.shedStep f) s =
       .next (State.settle s ((s.setMonitor f { m with shedTimer := some 0 }).shedOne f .low))) ∧
     s.actOnChange f .low = s.shedOne f .low ∧ (s.victim f = none → s.shedOne f cause = s) ∧
     ∀ ch, s.victim f = some ch →
       let c := s.chan ch
       let u := s.unit f
       let place := 1 + allChannels.countP fun x => feedOf x = f && (s.chan x).admitted &&
         decide (c.stampNumber < (s.chan x).stampNumber)
       let told := (s.setMonitor f { m with restoreTimer := m.restoreTimer.map fun _ => 0 }).offerEvent
         (.shed ch f cause c.profile.cls place m.vavg m.current)
       (bridgeOf ch = none → s.shedOne f cause = ((told.setUnit f { u with
           sumS := u.sumS - (if c.st = .ramping then c.profile.iclaim else c.profile.rclaim)
           sumR := u.sumR - c.profile.rclaim }).setChan ch { c with
         st := .shed, window := none, goodRun := none, lowCount := 0, goodCount := 0
         applied := 0, onTime := 0, periodTimer := none }).examine f) ∧
       ∀ br, bridgeOf ch = some br →
         s.shedOne f cause = (told.dropDrive false br .supply).examine f)

/-- OVERLOAD_SHED and RESTORE (R137, R138): the sample that brings the overload counter to 1000, with no
change of state, sheds a victim with cause OVERLOAD and sets the counter and the running restore timer to
0; the sample within CONT that brings the restore timer of a NORMAL feed to 2000 hands every SHED channel
over as one batch and offers RESTORE with the numbers restored and admitted at once, the timer from 0;
without any the timer stops at 2000. A timer that stands at 2000 is left by an overload without victim
(log 15, the model's reading). -/
def Obligations.OverloadShedsAndRestoreReturns : Prop :=
  ∀ (f : Feed) (voltage current : Nat) (s : State), s.Running →
    let u := s.takeFeedSample f voltage current
    let m := u.monitor f
    u.feedChangeDue f = none →
    (m.counters.overload = 1000 → (s.unit f).cont < m.current →
      let w := u.shedOne f .overload
      exec (.feedSample f voltage current) s = .next (State.settle s (w.setMonitor f { w.monitor f with
        counters := { m.counters with overload := 0 }
        restoreTimer := (w.monitor f).restoreTimer.map fun n =>
          if m.st = .normal ∧ n < 2000 then 0 else n })) ∧
      exec (.overloadShed f voltage current) s = exec (.feedSample f voltage current) s) ∧
    (m.st = .normal → m.restoreTimer = some 1999 → m.current ≤ (s.unit f).cont →
      m.counters.overload ≠ 1000 →
      let shed := (channelsOf f).filter fun ch => (s.chan ch).st = .shed
      exec (.restore f voltage current) s = exec (.feedSample f voltage current) s ∧
      (shed = [] → exec (.restore f voltage current) s =
        .next (State.settle s (u.setMonitor f { m with restoreTimer := some 2000 }))) ∧
      (shed ≠ [] →
        let w := u.placeBatch f shed
        exec (.restore f voltage current) s = .next (State.settle s ((w.offerEvent
          (.restore f shed.length (shed.countP fun ch => (w.chan ch).admitted))).setMonitor f { m with
            restoreTimer := some 0 }))))

/-- The checks of the configuration requests (R3, R31, R52, R63, R64, R104, R150, R152, R164, R34, R144), the
first that fails deciding: what the byte names, the fixed rights, a hold of another client (BUSY), a
channel or feed that is not OFF (STATE), a pending read (BUSY). -/
def Obligations.ConfigRequestsAreCheckedInOrder : Prop :=
  ∀ (src : Source) (b x y z k : Byte) (h i j : Half) (n m : BitVec 4) (w : BitVec 24) (s : State),
    s.Takes src →
    let refused (c : Instr) (kind : Byte) (code : RefusalCode) : Prop :=
      exec c s = .next (s.refusedWith src kind b code)
    let profiles (code : RefusalCode) : Prop :=
      refused (.profileA src b n m h i) 0x30 code ∧ refused (.profileB src b h i x y) 0x31 code ∧
      refused (.profileC src b h i x) 0x32 code ∧ refused (.profileD src b w h) 0x33 code ∧
      refused (.profileE src b x y z h) 0x34 code
    let profileF (code : RefusalCode) : Prop := refused (.profileF src b h x y z k) 0x35 code
    let service := src.client = .service
    let holder (f : Feed) : Option Client := (s.unit f).hold.map Hold.holder
    (16 ≤ b.toNat → profiles .badTarget ∧ profileF .badTarget ∧ refused (.read src b) 0x40 .badTarget) ∧
    (∀ ch, NamesChannel b ch →
      (typeOf ch ≠ .bridge → profileF .badTarget) ∧
      (¬ service → profiles .noRight ∧ (typeOf ch = .bridge → profileF .noRight)) ∧
      (service → (s.chan ch).st ≠ .off →
        profiles .state ∧ (typeOf ch = .bridge → profileF .state)) ∧
      ((s.port src.port).read ≠ none → refused (.read src b) 0x40 .busy)) ∧
    (2 ≤ b.toNat →
      refused (.feedCfg src b h i j) 0x38 .badTarget ∧ refused (.hold src b x y) 0x20 .badTarget ∧
      refused (.unhold src b) 0x21 .badTarget ∧ refused (.flashCfg src b h i) 0x22 .badTarget ∧
      refused (.statusCfg src b h) 0x3A .badTarget) ∧
    (b.toNat = 0 ∨ 4 < b.toNat → refused (.clientCfg src b h) 0x39 .badTarget) ∧
    (1 ≤ b.toNat → b.toNat ≤ 4 → ¬ service → refused (.clientCfg src b h) 0x39 .noRight) ∧
    (∀ f, NamesSide b f →
      (¬ service →
        refused (.feedCfg src b h i j) 0x38 .noRight ∧ refused (.statusCfg src b h) 0x3A .noRight) ∧
      (src.client = .body ∨ src.client = .climate →
        refused (.hold src b x y) 0x20 .noRight ∧ refused (.unhold src b) 0x21 .noRight) ∧
      (src.client = .engine ∨ src.client = .climate → refused (.flashCfg src b h i) 0x22 .noRight) ∧
      (service → (∃ ch, feedOf ch = f ∧ (s.chan ch).st ≠ .off) →
        refused (.feedCfg src b h i j) 0x38 .state) ∧
      ((src.client = .engine ∨ service) → holder f ≠ none → holder f ≠ some src.client →
        refused (.hold src b x y) 0x20 .busy ∧
        (src.client = .engine → refused (.unhold src b) 0x21 .busy))) ∧
    (¬ service → exec (.reset src) s = .next (s.refusedWith src 0x7E 0 .noRight))

/-- PROFILE_A to PROFILE_F from SERVICE on an OFF channel (R3 to R10): every field clamped as its rule says,
all together, and the DEFAULT flag cleared; PROFILE_B lowers a trip count above the new RETRIES;
PROFILE_A to class 0 strips INHIBIT from the rights, removes the INHIBIT entries of the channel and hands
its combined demand over; PROFILE_F to FLOAT opens low sides that were closed. -/
def Obligations.ProfilesAreWrittenClamped : Prop :=
  ∀ (port : Port) (b x y z k : Byte) (h i : Half) (n m : BitVec 4) (w : BitVec 24) (ch : Ch) (s : State),
    let src : Source := ⟨port, .service⟩
    let t := typeOf ch
    let p := (s.chan ch).profile
    let u := s.unit (feedOf ch)
    let strip (r : Right) : Right := if r = .inhibit then .none else if r = .both then .demand else r
    let right (code : Nat) : Right := if code % 4 = 0 then .none else if code % 4 = 1 then .demand
      else if code % 4 = 2 then .inhibit else .both
    let stored (v : State) (q : Profile) : State :=
      v.setChan ch { v.chan ch with profile := q, default := false }
    let writes (c : Instr) (q : Profile) : Prop :=
      exec c s = .next (s.accepted src fun v => stored v q)
    s.Takes src → NamesChannel b ch → (s.chan ch).st = .off →
    let cls := min 3 n.toNat
    let rated := max 5 (min t.ratedMax h.toNat)
    let short := max rated (min t.fullScale i.toNat)
    let a : Profile := { p with
      cls := cls, tau := max 6 (min 14 m.toNat), rated := rated, short := short
      ishort := max p.ishort short }
    let a0 : Profile := { a with rightBody := strip p.rightBody, rightEngine := strip p.rightEngine
                                 rightClimate := strip p.rightClimate }
    (cls ≠ 0 → writes (.profileA src b n m h i) a) ∧
    (cls = 0 → ∃ v, exec (.profileA src b n m h i) s = .next v ∧
      (∀ y cl, v.slot y cl = if y = ch ∧ s.slot y cl = some .inhibit then none else s.slot y cl) ∧
      v.HandedOver ch ∧ (∀ y, y ≠ ch → (s.heard src).SameWish v y) ∧ v.groups = s.groups ∧
      v.ports = (s.heard src).ports ∧ v.quiet = some 0 ∧ v.RestHanded ∧
      (stored (s.heard src) a0).SameBeyondDemands v) ∧
    (exec (.profileB src b h i x y) s = .next (s.accepted src fun v =>
      (stored v { p with
        ishort := max p.short (min t.fullScale h.toNat), window := max 1 (min 500 i.toNat)
        retries := min 7 x.toNat, openThr := min 100 y.toNat }).setChan ch { s.chan ch with
          profile := { p with
            ishort := max p.short (min t.fullScale h.toNat), window := max 1 (min 500 i.toNat)
            retries := min 7 x.toNat, openThr := min 100 y.toNat }
          default := false
          tripCount := min (s.chan ch).tripCount (min 7 x.toNat) })) ∧
    writes (.profileC src b h i x) { p with
      iclaim := min u.peak h.toNat, rclaim := min (min (min u.peak h.toNat) u.cont) i.toNat
      silence := if t = .bridge then none else some (if x = 0 then .hold else .release) } ∧
    writes (.profileD src b w h) { p with
      period := match t with
        | .lamp => some (max 2000 (min 20000 w.toNat))
        | .heater => some (max 100000 (min 1000000 w.toNat))
        | .fan => some (max 40 (min 100 w.toNat))
        | .bridge => none
      vt := if t ≠ .lamp ∨ h.toNat = 0 then 0 else max 200 (min 280 h.toNat) } ∧
    (let bare := t = .bridge ∨ p.cls = 0
     let kept (r : Right) : Right := if bare then strip r else r
     writes (.profileE src b x y z h) { p with
      rightBody := kept (right x.toNat), rightEngine := kept (right (x.toNat / 4))
      rightClimate := kept (right (x.toNat / 16))
      bindInput := if t = .bridge ∨ y = 0 then none else if y = 1 then some .brake
        else if y = 2 then some .hazard else some .reverse
      bindMode := if t ≠ .lamp ∨ z = 0 then .steady else if z = 1 then .flash .a else .flash .b
      bindDuty := min 1000 h.toNat }) ∧
    ∀ br, bridgeOf ch = some br →
      let q : Profile := { p with bridge := some {
        stall := min 600 h.toNat, stallt := max 10 (min 500 (10 * x.toNat))
        braket := max 10 (min 500 (10 * y.toNat)), deadt := max 1 (min 50 z.toNat)
        idle := if k = 0 then .float else .brake } }
      exec (.profileF src b h x y z k) s = .next (s.accepted src fun v =>
        if k = 0 ∧ (s.bridge br).st = .idle ∧ p.bridgeFields.idle = .brake ∧ (s.bridge br).rest = none
        then (stored v q).setBridge br { s.bridge br with rest := some 0 } else stored v q)

/-- RESET from SERVICE (R164, R24, R49, R50, R68, R102, R114, R127, R156): the demand table, queues, sums,
holds, placed sets, transmit queues and pending reads are emptied, running channels go OFF, groups and
bridges IDLE, owners cleared; heat, trips, profiles, budgets, clients, feed monitors and pins are kept.
RESET_DONE is offered to both ports, and the entries of each active input are placed again behind it. A
frame being offered to the bus goes with its queue (log 34), the open-ended mark stays (log 32), the
stall counter stays (log 38), and the inputs are taken BRAKE, HAZARD, REVERSE (log 20): the model's
choices. -/
def Obligations.SoftResetClearsTheDemands : Prop :=
  ∀ (port : Port) (s : State),
    let src : Source := ⟨port, .service⟩
    let v := s.clearDemands
    let told := v.offerEvent (.resetDone port s.zone)
    let again (u : State) (i : WiredInput) : State :=
      if s.level (pinOf i) = true then u.activateInput i else u
    (s.Takes src → exec (.reset src) s = .next (s.accepted src fun u => u.softReset port)) ∧
    s.softReset port = again (again (again told .brake) .hazard) .reverse ∧
    (∀ ch cl, v.slot ch cl = none) ∧
    (∀ ch, v.chan ch =
      let c := { s.chan ch with wish := false, inhibited := false, pending := 0, applied := 0 }
      match (s.chan ch).st with
      | .off => c
      | .tripped => c
      | .locked => c
      | _ => { c with st := .off, window := none, goodRun := none, lowCount := 0, goodCount := 0
                      onTime := 0, periodTimer := none }) ∧
    (∀ f, v.unit f = { s.unit f with queue := [], sumS := 0, sumR := 0, hold := none }) ∧
    (∀ g, v.group g = { s.group g with
      curPeriod := (s.group g).pendPeriod, curOn := (s.group g).pendOn, phase := .idle, timer := none
      fast := false }) ∧
    (∀ br, v.bridge br = { s.bridge br with
      st := .idle, stageTimer := none, driveTimer := none, redrive := false, ending := none, owner := none
      rest := if (s.bridge br).st = .drive ∨ (s.bridge br).st = .brake ∨ ((s.bridge br).st = .idle ∧
          (s.bridgeProfile br).idle = .brake ∧ (s.bridge br).rest = none)
        then some 0 else (s.bridge br).rest }) ∧
    (∀ p, v.port p = { s.port p with
      queue := [], read := none
      lost := (s.port p).lost || (s.port p).queue.any TxFrame.summaryWithFlag }) ∧
    v.placed = ⟨[], [], []⟩ ∧ v.clients = s.clients ∧ v.mon = s.mon ∧ v.pins = s.pins ∧
    v.part = s.part ∧ v.zone = s.zone ∧ v.powered = s.powered ∧ v.quiet = s.quiet

/-- A status round and STATUS_CFG (R149, R148, R150): SUMMARY and CHANNEL STATUS 1 to 8, the first as many as
there are free slots, the flag cleared when the SUMMARY enters, the timer from 0; a STATUS_CFG from
SERVICE stores the clamped interval and makes a round at once if the timer already stands at or above it.
READ, READ_COMPLETION and TRANSMIT_COMPLETE (R146, R152, R153, R154): an accepted READ is pending until
the port has three free slots, at once or at a departure, and then its three DETAIL frames enter
together; the head that has been sent leaves and takes 1 from the transmit error count. -/
def Obligations.StatusRoundsAndReads : Prop :=
  (∀ (p port : Port) (b : Byte) (time : Half) (n : Nat) (s : State),
     let r := s.port p
     let nine := [s.summaryFrame p, s.statusFrame 1 0 1, s.statusFrame 2 2 3, s.statusFrame 3 4 5,
       s.statusFrame 4 6 7, s.statusFrame 5 8 9, s.statusFrame 6 10 11, s.statusFrame 7 12 13,
       s.statusFrame 8 14 15]
     let src : Source := ⟨port, .service⟩
     let interval := max 20 (min 1000 time.toNat)
     (r.st = .active → s.restartStatus p = s.setPort p { r with
       queue := r.queue ++ nine.take (12 - r.queue.length), statusTimer := some 0
       lost := if r.queue.length < 12 then false else r.lost }) ∧
     (s.Running → r.st = .active → r.statusTimer = some n → r.interval ≤ n →
       exec (.statusRound p) s = .next (State.settle s (s.restartStatus p))) ∧
     (s.Takes src → NamesSide b p → ¬ (∃ k, r.statusTimer = some k ∧ interval ≤ k) →
       exec (.statusCfg src b time) s = .next (s.accepted src fun u =>
         u.setPort p { u.port p with interval := interval })) ∧
     (s.Takes src → NamesSide b p → (∃ k, r.statusTimer = some k ∧ interval ≤ k) →
       exec (.statusCfg src b time) s = .next (s.accepted src fun u =>
         (u.setPort p { u.port p with interval := interval }).restartStatus p))) ∧
  (∀ (src : Source) (b : Byte) (ch : Ch) (p : Port) (head : TxFrame) (rest : List TxFrame) (s : State),
     let r := s.port p
     let reads (v : PortRecord) : PortRecord := match v.read with
       | some x => if v.queue.length ≤ 9
         then { v with queue := v.queue ++ s.detailFrames x, read := none } else v
       | none => v
     let left : PortRecord := { r with queue := rest, txErrors := r.txErrors - 1 }
     (s.Takes src → NamesChannel b ch → (s.port src.port).read = none →
       exec (.read src b) s = .next (s.accepted src fun u => u.setPort src.port
         (reads { u.port src.port with read := some ch }))) ∧
     (s.powered = true → r.st = .active → r.queue = head :: rest →
       exec (.transmitComplete p) s = .next (State.settle s (s.setPort p (reads left))) ∧
       (∀ x, r.read = some x → 9 < r.queue.length → rest.length ≤ 9 →
         exec (.readCompletion p) s = .next (State.settle s (s.setPort p { left with
           queue := rest ++ s.detailFrames x, read := none }))) ∧
       ∀ x, r.read = some x → r.queue.length ≤ 9 →
         exec (.readCompletion p) s = .next (State.settle s (s.setPort p { r with
           queue := r.queue ++ s.detailFrames x, read := none }))))

/-- TRANSMIT_ERROR, BUS_OFF, BUS_ACTIVITY and BUS_RECOVERY (R146, R154, R155): an error adds 8 and keeps the
frame; past 255 the port is BUS_OFF with queue, read and status timer gone, the flag set if an EVENT,
REPLY, DETAIL or flagged SUMMARY was lost, the counts 0 and the recovery timer from 0; activity sets that
timer to 0; at 200 ms the port is ACTIVE again, and in ACTIVE makes a status round at once. -/
def Obligations.BusOffAndRecovery : Prop :=
  ∀ (p : Port) (n : Nat) (s : State), s.powered = true →
    let r := s.port p
    let outcome (c : Instr) (t : State) : Prop := exec c s = .next (State.settle s t)
    let lostWith := r.queue.any fun f =>
      let offset := f.id.toNat % 16
      decide (offset = 9 ∨ offset = 10 ∨ offset = 11) ||
        (decide (offset = 0) && decide ((f.data.headD 0).toNat % 2 = 1))
    let off : State := s.setPort p { r with
      st := .busOff, queue := [], read := none, statusTimer := none, recovery := some 0
      txErrors := 0, rxErrors := 0, lost := r.lost || lostWith }
    (r.st = .active → r.queue ≠ [] → r.txErrors + 8 ≤ 255 →
      outcome (.transmitError p) (s.setPort p { r with txErrors := r.txErrors + 8 })) ∧
    (r.st = .active → r.queue ≠ [] → 255 < r.txErrors + 8 →
      outcome (.busOff p) off ∧ outcome (.transmitError p) off) ∧
    (r.st = .busOff → r.recovery = some n →
      outcome (.busActivity p) (s.setPort p { r with recovery := some 0 }) ∧
      (200 ≤ n →
        let back := s.setPort p { r with st := .active, recovery := none }
        (s.part = .active → outcome (.busRecovery p) (back.restartStatus p)) ∧
        (s.part = .sleep → outcome (.busRecovery p) back)))

/-- The bytes of the report frames (R67, R72, R79, R101, R115, R139, R148, R153, 09 section 9.9): SUMMARY,
CHANNEL STATUS, and the three DETAIL frames, with their identifiers, every code in numbers. The overload
flag compares with the CONT of the moment the frame is built (R137; log 33, the model's choice). The
bytes of the event frames (R151): kind, subject and detail of each of the sixteen events, and the codes
of DRIVE_END's causes and of refusals in numbers (R126, R144). A driven time above 1000 is sent as 1000
(R126's range; log 31, the model's choice). -/
def Obligations.FramesCarryTheirBytes : Prop :=
  (∀ (p : Port) (ch x : Ch) (k : Nat) (s : State), k ≤ 8 →
     let id (offset : Nat) : BitVec 11 := BitVec.ofNat 11 (0x500 + 0x10 * s.zone.val + offset)
     let bit (q : Prop) [Decidable q] (weight : Nat) : Nat := if q then weight else 0
     let feedByte (f : Feed) : Nat :=
       (match (s.monitor f).st with
         | .cut => 0
         | .normal => 1
         | .low => 2
         | .surge => 3) +
       (match (s.unit f).hold with
         | some h => 4 * h.level
         | none => 0) +
       bit ((s.unit f).cont < (s.monitor f).current) 16 +
       bit ((s.unit f).peak < (s.unit f).sumS ∨ (s.unit f).cont < (s.unit f).sumR) 32
     let clientCode (cl : Client) : Nat := match (s.client cl).st with
       | .absent => 0
       | .active => 1
       | .lost => 2
     let stateCode (st : ChState) : Nat := match st with
       | .off => 0
       | .waiting => 1
       | .ramping => 2
       | .on => 3
       | .tripped => 4
       | .locked => 5
       | .shed => 6
       | .suspended => 7
     let bridgeCode (b : BridgeRecord) : Nat := match b.st, b.dir with
       | .idle, _ => 0
       | .drive, .forward => 1
       | .drive, .reverse => 2
       | .brake, _ => 3
       | .dead _, _ => 4
     let causeCode : TripCause → Nat
       | .none => 0
       | .thermal => 1
       | .short => 2
     let fromCode : TripFrom → Nat
       | .none => 0
       | .ramping => 2
       | .on => 3
     let channelNats (c : Ch) : List Nat :=
       [stateCode (s.chan c).st + bit ((s.chan c).openFlag = true) 16 + bit ((s.chan c).inhibited = true) 32 +
           bit (Client.all.any (fun cl => ((s.slot c cl).map Entry.isHeld).getD false) = true) 64 +
           bit ((s.chan c).default = true) 128,
         (s.chan c).applied / 4, min 255 ((s.chan c).lastRms / 10),
         (s.chan c).tripCount + 16 * (match bridgeOf c with
           | some br => bridgeCode (s.bridge br)
           | none => 0)]
     let c := s.chan ch
     let q := c.profile
     let r := c.trip
     let bytes (l : List Nat) : List Byte := l.map fun n => BitVec.ofNat 8 n
     s.summaryFrame p = ⟨id 0, bytes [
       bit ((s.port p).lost = true) 1 + bit (∃ y, (s.chan y).default = true) 2 +
         bit (s.level .key = true) 4 + bit (s.level .brake = true) 8 + bit (s.level .hazard = true) 16 +
         bit (s.level .reverse = true) 32,
       feedByte .a, (s.monitor .a).vavg / 2, min 255 (((s.unit .a).peak - (s.unit .a).sumS) / 10),
       feedByte .b, (s.monitor .b).vavg / 2, min 255 (((s.unit .b).peak - (s.unit .b).sumS) / 10),
       clientCode .body + 4 * clientCode .engine + 16 * clientCode .climate +
         64 * clientCode .service]⟩ ∧
     s.statusFrame k ch x = ⟨id k, bytes (channelNats ch ++ channelNats x)⟩ ∧
     s.detailFrames ch = [
       ⟨id 11, bytes [ch.val, 0, q.rated / 256, q.rated, q.short / 256, q.short,
         q.ishort / 256, q.ishort]⟩,
       ⟨id 11, bytes [ch.val, 1, q.iclaim / 256, q.iclaim, q.rclaim / 256, q.rclaim,
         16 * q.cls + q.tau, q.retries]⟩,
       ⟨id 11, bytes [ch.val, 2, 64 * causeCode r.cause + 16 * fromCode r.tripFrom + r.count, r.rms / 10,
         r.q / 65536 / 256, r.q / 65536, r.vavg / 2, r.pending / 4]⟩]) ∧
  (∀ (ch : Ch) (f p : Side) (cl who : Client) (n a b c d : Nat) (o : Option Nat) (zone : Fin 4),
     let bytes (l : List Nat) : List Byte := l.map fun n => BitVec.ofNat 8 n
     let side : Nat := if f = .a then 0 else 1
     let port : Nat := if p = .a then 0 else 1
     let cur : Nat := o.getD 0xFFFF
     (∀ cause code, (cause, code) ∈ [(TripCause.thermal, 1), (.short, 2)] →
       ∀ st tripped, (st, tripped) ∈ [(TripFrom.ramping, 2), (.on, 3)] →
       (Event.trip ch cause st a o n).bytes =
         bytes [1, ch.val, 16 * code + tripped, a / 256, a, cur / 256, cur, n]) ∧
     (Event.lock ch a b).bytes = bytes [2, ch.val, a, b, 0, 0, 0, 0] ∧
     (∀ st code, (st, code) ∈ [(ChState.waiting, 1), (.ramping, 2), (.suspended, 7)] →
       (Event.retry ch st a b).bytes =
         bytes [3, ch.val, code, a, b / 65536 / 256, b / 65536, 0, 0]) ∧
     (Event.openSet ch a b).bytes = bytes [4, ch.val, a / 256, a, b, 0, 0, 0] ∧
     (Event.openClear ch a b).bytes = bytes [5, ch.val, a / 256, a, b, 0, 0, 0] ∧
     (Event.shed ch f .low a b c d).bytes =
       bytes [6, ch.val, 16 * side + 1, a, b, c / 2, d / 256, d] ∧
     (Event.shed ch f .overload a b c d).bytes =
       bytes [6, ch.val, 16 * side + 2, a, b, c / 2, d / 256, d] ∧
     (Event.restore f a b).bytes = bytes [7, side, a, b, 0, 0, 0, 0] ∧
     (∀ former was, (former, was) ∈ [(FeedState.cut, 0), (.normal, 1), (.low, 2), (.surge, 3)] →
       ∀ new is, (new, is) ∈ [(FeedState.cut, 0), (.normal, 1), (.low, 2), (.surge, 3)] →
       (Event.feedState f former new a b c).bytes =
         bytes [8, side, was, is, a / 256, a, b / 2, c]) ∧
     (Event.expire ch cl).bytes = bytes [9, ch.val, cl.number, 0, 0, 0, 0, 0] ∧
     (Event.flashDone ch cl f a).bytes = bytes [10, ch.val, cl.number, side, a, 0, 0, 0] ∧
     (∀ cause code, (cause, code) ∈ [(DriveCause.time, 1), (.maxtime, 2), (.stall, 3), (.released, 4),
         (.lost, 5), (.tripped, 6), (.supply, 7)] →
       (Event.driveEnd ch cause cl .forward a o).bytes = bytes [11, ch.val, code, cl.number, 0,
         min 1000 (a / 10) / 256, min 1000 (a / 10), o.getD 0 / 10] ∧
       (Event.driveEnd ch cause cl .reverse a o).bytes = bytes [11, ch.val, code, cl.number, 1,
         min 1000 (a / 10) / 256, min 1000 (a / 10), o.getD 0 / 10]) ∧
     [RefusalCode.unknownKind, .badFormat, .badTarget, .noRight, .busy, .state].map RefusalCode.code =
       [1, 2, 3, 4, 5, 6] ∧
     (Event.admitDelay ch f a b c d).bytes = bytes [12, ch.val, side, a, b, c, d, 0] ∧
     (Event.clientLost cl (some p) a b).bytes = bytes [13, cl.number, port, a, b, 0, 0, 0] ∧
     (Event.clientBack cl p a).bytes = bytes [14, cl.number, port, a, 0, 0, 0, 0] ∧
     (Event.holdEnd f cl a .unhold (some who)).bytes =
       bytes [15, side, cl.number, a, 1, who.number, 0, 0] ∧
     (Event.holdEnd f cl a .expired none).bytes = bytes [15, side, cl.number, a, 2, 0xFF, 0, 0] ∧
     (Event.holdEnd f cl a .lost none).bytes = bytes [15, side, cl.number, a, 3, 0xFF, 0, 0] ∧
     (Event.resetDone p zone).bytes = bytes [16, 0, port, zone.val, 0, 0, 0, 0])

/-- A request frame carries its request (R141, 09 section 9.9): for each of the 22 request kinds, from each
client on a port that takes its frames, and for every value of every field, the frame written from the
layout tables is a classical frame with at most eight bytes and is read as that request again. -/
def Obligations.RequestFramesReadBack : Prop :=
  ∀ (zone : Fin 4) (i : Instr) (p : Port) (f : CanFrame),
    i.wellFormed = true → encodeFrame zone i = some (p, f) →
    decodeFrame zone p f = i ∧ f.data.length ≤ 8 ∧ f.remote = false ∧ f.extended = false ∧
      f.id < 2 ^ 11

/-- The state right after reset satisfies every invariant stated of the part. -/
def Obligations.InvariantsHoldAtReset : Prop :=
  State.reset.QueuesBounded ∧ State.reset.HeatInRange ∧ State.reset.DutiesInRange ∧
  State.reset.SleepsAtRest ∧ State.reset.AdmissionKept ∧ State.reset.BudgetsKept ∧
  State.reset.TripsBounded ∧ State.reset.OwnersKept ∧ State.reset.WishesKept ∧
  State.reset.BridgesKept ∧ State.reset.Coherent ∧ State.reset.PeriodsKept

/-- Every step keeps each transmit queue within twelve frames (R146), every heat value within 1,024,000,000
and every RATED within its type's maximum (R74, R4), and every duty a per-mille value (R35, R37, R97).
Every step keeps PERIOD within its type's range, and a PWM channel's period timer running exactly while
it is RAMPING or ON, at a position below PERIOD; outside RAMPING and ON the applied duty and the on-time
are 0 (R7, R89, R94, R95, R100). -/
def Obligations.StepKeepsTheRanges : Prop :=
  ∀ (s t : State), step s = .next t →
    (s.QueuesBounded → t.QueuesBounded) ∧ (s.HeatInRange → t.HeatInRange) ∧
    (s.DutiesInRange → t.DutiesInRange) ∧ (s.PeriodsKept → t.PeriodsKept)

/-- Every step keeps the mode controller's rest conditions equal to the channels' and the inputs', and a
sleeping part at rest with its quiet timer stopped (R161 to R163). -/
def Obligations.StepKeepsSleepAtRest : Prop :=
  ∀ (s t : State), step s = .next t → s.SleepsAtRest → t.SleepsAtRest

/-- Every step keeps the admission units in agreement with the channels (R53, R54, R56): each feed's queue
holds its WAITING channels, each once, in the order of class, and its sums S and R are the sums of the
claims that its channels hold. Every step keeps the budgets (R59, R62): the claims of the admitted
channels of classes 1 to 3 of a feed stay within PEAK and CONT, whatever is admitted by the class 0
bypass beside them. -/
def Obligations.StepKeepsAdmission : Prop :=
  (∀ (s t : State), step s = .next t → s.AdmissionKept → t.AdmissionKept) ∧
  (∀ (s t : State), step s = .next t → s.AdmissionKept → s.BudgetsKept → t.BudgetsKept)

/-- Every step keeps trip counts within RETRIES plus one, with LOCKED above RETRIES (R18), and no step takes
a channel out of LOCKED but a CLEAR that names it (R20) and a power-on reset (R158). -/
def Obligations.StepKeepsTripsAndLocks : Prop :=
  ∀ (s t : State), step s = .next t → s.AdmissionKept →
    (s.TripsBounded → t.TripsBounded) ∧
    ∀ ch : Ch, (s.chan ch).st = .locked → (t.chan ch).st = .locked ∨
      match s.pending.head? with
      | some (.clear _ b) => NamesChannel b ch
      | some (.powerOnReset _) => True
      | _ => False

/-- Every step keeps DRIVE entries with their owners (R35, R39, R117): a client's DRIVE entry stands on a
bridge exactly while the client owns the bridge, and no other channel holds one. Every step keeps wishes
with states (R12 to R16) and bridges with their channels (R100, R116, R118, R121, R123): together with
the admission units and the owners, as one invariant. -/
def Obligations.StepKeepsCoherence : Prop :=
  (∀ (s t : State), step s = .next t → s.OwnersKept → t.OwnersKept) ∧
  (∀ (s t : State), step s = .next t → s.Coherent → t.Coherent)

/-- The legs of a bridge never go from one conducting stand to another in one step (R115, R116): they stay as
they are, or were all off before it, or are all off after it. -/
def Obligations.LegsChangeOnlyThroughOff : Prop :=
  ∀ (s t : State) (br : Bridge), step s = .next t → s.Coherent →
    t.legs br = s.legs br ∨ s.legs br = (.off, .off) ∨ t.legs br = (.off, .off)

end Statements
end

