-- ==== Sys2Proof/Laws/State.lean ====
section
/-!
SUPPORT. Reads of State after each of its named writes: a write of one kind of record leaves every other
field as it was, and is read back by its own read.
-/
namespace Sys2Proof.Machine

/-! ### Pairs and tables of records -/

@[simp] theorem Pair.get_set_same {α : Type} (p : Pair α) (x : Side) (v : α) :
    (p.set x v).get x = v := by cases x <;> rfl

theorem Pair.get_set_other {α : Type} (p : Pair α) {x y : Side} (v : α) (h : y ≠ x) :
    (p.set x v).get y = p.get y := by cases x <;> cases y <;> first | rfl | exact absurd rfl h

theorem Pair.get_set {α : Type} (p : Pair α) (x y : Side) (v : α) :
    (p.set x v).get y = if y = x then v else p.get y := by cases x <;> cases y <;> rfl

@[simp] theorem PerClient.get_set_same {α : Type} (p : PerClient α) (x : Client) (v : α) :
    (p.set x v).get x = v := by cases x <;> rfl

theorem PerClient.get_set {α : Type} (p : PerClient α) (x y : Client) (v : α) :
    (p.set x v).get y = if y = x then v else p.get y := by cases x <;> cases y <;> rfl

@[simp] theorem PerInput.get_set_same {α : Type} (p : PerInput α) (x : WiredInput) (v : α) :
    (p.set x v).get x = v := by cases x <;> rfl

theorem PerInput.get_set {α : Type} (p : PerInput α) (x y : WiredInput) (v : α) :
    (p.set x v).get y = if y = x then v else p.get y := by cases x <;> cases y <;> rfl

/-! ### What a write reads back as -/

theorem State.chan_setChan (s : State) (ch x : Ch) (c : Channel) :
    (s.setChan ch c).chan x = if x = ch then c else s.chan x := by
  by_cases h : x = ch
  · subst h; simp [State.chan, State.setChan]
  · rw [if_neg h]
    exact Vector.getElem_set_ne ch.isLt x.isLt fun e => h (Fin.ext e.symm)

@[simp] theorem State.chan_setChan_same (s : State) (ch : Ch) (c : Channel) :
    (s.setChan ch c).chan ch = c := by rw [State.chan_setChan, if_pos rfl]

theorem State.slot_setSlot (s : State) (ch x : Ch) (cl y : Client) (e : Option Entry) :
    (s.setSlot ch cl e).slot x y = if x = ch ∧ y = cl then e else s.slot x y := by
  by_cases h : x = ch
  · subst h
    by_cases k : y = cl
    · subst k; simp [State.slot, State.setSlot]
    · simp [State.slot, State.setSlot, PerClient.get_set, k]
  · rw [if_neg fun e => h e.1]
    unfold State.slot State.setSlot
    have hn : ((s.demand.set ch ((s.demand[ch]).set cl e))[x]) = s.demand[x] :=
      Vector.getElem_set_ne ch.isLt x.isLt fun e => h (Fin.ext e.symm)
    rw [hn]

@[simp] theorem State.slot_setSlot_same (s : State) (ch : Ch) (cl : Client) (e : Option Entry) :
    (s.setSlot ch cl e).slot ch cl = e := by rw [State.slot_setSlot, if_pos ⟨rfl, rfl⟩]

theorem State.client_setClient (s : State) (cl x : Client) (r : ClientRecord) :
    (s.setClient cl r).client x = if x = cl then r else s.client x := PerClient.get_set _ _ _ _

@[simp] theorem State.client_setClient_same (s : State) (cl : Client) (r : ClientRecord) :
    (s.setClient cl r).client cl = r := PerClient.get_set_same _ _ _

theorem State.unit_setUnit (s : State) (f x : Feed) (u : Admission) :
    (s.setUnit f u).unit x = if x = f then u else s.unit x := Pair.get_set _ _ _ _

@[simp] theorem State.unit_setUnit_same (s : State) (f : Feed) (u : Admission) :
    (s.setUnit f u).unit f = u := Pair.get_set_same _ _ _

theorem State.monitor_setMonitor (s : State) (f x : Feed) (m : Monitor) :
    (s.setMonitor f m).monitor x = if x = f then m else s.monitor x := Pair.get_set _ _ _ _

@[simp] theorem State.monitor_setMonitor_same (s : State) (f : Feed) (m : Monitor) :
    (s.setMonitor f m).monitor f = m := Pair.get_set_same _ _ _

theorem State.group_setGroup (s : State) (g x : Group) (r : FlashGroup) :
    (s.setGroup g r).group x = if x = g then r else s.group x := Pair.get_set _ _ _ _

@[simp] theorem State.group_setGroup_same (s : State) (g : Group) (r : FlashGroup) :
    (s.setGroup g r).group g = r := Pair.get_set_same _ _ _

theorem State.bridge_setBridge (s : State) (br x : Bridge) (r : BridgeRecord) :
    (s.setBridge br r).bridge x = if x = br then r else s.bridge x := Pair.get_set _ _ _ _

@[simp] theorem State.bridge_setBridge_same (s : State) (br : Bridge) (r : BridgeRecord) :
    (s.setBridge br r).bridge br = r := Pair.get_set_same _ _ _

theorem State.port_setPort (s : State) (p x : Port) (r : PortRecord) :
    (s.setPort p r).port x = if x = p then r else s.port x := Pair.get_set _ _ _ _

@[simp] theorem State.port_setPort_same (s : State) (p : Port) (r : PortRecord) :
    (s.setPort p r).port p = r := Pair.get_set_same _ _ _

/-! ### What a write leaves alone, field by field -/

@[simp] theorem State.setChan_powered (s : State) (ch : Ch) (c : Channel) : (s.setChan ch c).powered = s.powered := rfl
@[simp] theorem State.setChan_zone (s : State) (ch : Ch) (c : Channel) : (s.setChan ch c).zone = s.zone := rfl
@[simp] theorem State.setChan_part (s : State) (ch : Ch) (c : Channel) : (s.setChan ch c).part = s.part := rfl
@[simp] theorem State.setChan_quiet (s : State) (ch : Ch) (c : Channel) : (s.setChan ch c).quiet = s.quiet := rfl
@[simp] theorem State.setChan_restCh (s : State) (ch : Ch) (c : Channel) : (s.setChan ch c).restCh = s.restCh := rfl
@[simp] theorem State.setChan_restIn (s : State) (ch : Ch) (c : Channel) : (s.setChan ch c).restIn = s.restIn := rfl
@[simp] theorem State.setChan_demand (s : State) (ch : Ch) (c : Channel) : (s.setChan ch c).demand = s.demand := rfl
@[simp] theorem State.setChan_clients (s : State) (ch : Ch) (c : Channel) : (s.setChan ch c).clients = s.clients := rfl
@[simp] theorem State.setChan_pins (s : State) (ch : Ch) (c : Channel) : (s.setChan ch c).pins = s.pins := rfl
@[simp] theorem State.setChan_placed (s : State) (ch : Ch) (c : Channel) : (s.setChan ch c).placed = s.placed := rfl
@[simp] theorem State.setChan_adm (s : State) (ch : Ch) (c : Channel) : (s.setChan ch c).adm = s.adm := rfl
@[simp] theorem State.setChan_mon (s : State) (ch : Ch) (c : Channel) : (s.setChan ch c).mon = s.mon := rfl
@[simp] theorem State.setChan_groups (s : State) (ch : Ch) (c : Channel) : (s.setChan ch c).groups = s.groups := rfl
@[simp] theorem State.setChan_bridges (s : State) (ch : Ch) (c : Channel) : (s.setChan ch c).bridges = s.bridges := rfl
@[simp] theorem State.setChan_ports (s : State) (ch : Ch) (c : Channel) : (s.setChan ch c).ports = s.ports := rfl
@[simp] theorem State.setChan_freeIndex (s : State) (ch : Ch) (c : Channel) : (s.setChan ch c).freeIndex = s.freeIndex := rfl
@[simp] theorem State.setChan_pending (s : State) (ch : Ch) (c : Channel) : (s.setChan ch c).pending = s.pending := rfl

@[simp] theorem State.setSlot_powered (s : State) (ch : Ch) (cl : Client) (e : Option Entry) : (s.setSlot ch cl e).powered = s.powered := rfl
@[simp] theorem State.setSlot_zone (s : State) (ch : Ch) (cl : Client) (e : Option Entry) : (s.setSlot ch cl e).zone = s.zone := rfl
@[simp] theorem State.setSlot_part (s : State) (ch : Ch) (cl : Client) (e : Option Entry) : (s.setSlot ch cl e).part = s.part := rfl
@[simp] theorem State.setSlot_quiet (s : State) (ch : Ch) (cl : Client) (e : Option Entry) : (s.setSlot ch cl e).quiet = s.quiet := rfl
@[simp] theorem State.setSlot_restCh (s : State) (ch : Ch) (cl : Client) (e : Option Entry) : (s.setSlot ch cl e).restCh = s.restCh := rfl
@[simp] theorem State.setSlot_restIn (s : State) (ch : Ch) (cl : Client) (e : Option Entry) : (s.setSlot ch cl e).restIn = s.restIn := rfl
@[simp] theorem State.setSlot_chans (s : State) (ch : Ch) (cl : Client) (e : Option Entry) : (s.setSlot ch cl e).chans = s.chans := rfl
@[simp] theorem State.setSlot_clients (s : State) (ch : Ch) (cl : Client) (e : Option Entry) : (s.setSlot ch cl e).clients = s.clients := rfl
@[simp] theorem State.setSlot_pins (s : State) (ch : Ch) (cl : Client) (e : Option Entry) : (s.setSlot ch cl e).pins = s.pins := rfl
@[simp] theorem State.setSlot_placed (s : State) (ch : Ch) (cl : Client) (e : Option Entry) : (s.setSlot ch cl e).placed = s.placed := rfl
@[simp] theorem State.setSlot_adm (s : State) (ch : Ch) (cl : Client) (e : Option Entry) : (s.setSlot ch cl e).adm = s.adm := rfl
@[simp] theorem State.setSlot_mon (s : State) (ch : Ch) (cl : Client) (e : Option Entry) : (s.setSlot ch cl e).mon = s.mon := rfl
@[simp] theorem State.setSlot_groups (s : State) (ch : Ch) (cl : Client) (e : Option Entry) : (s.setSlot ch cl e).groups = s.groups := rfl
@[simp] theorem State.setSlot_bridges (s : State) (ch : Ch) (cl : Client) (e : Option Entry) : (s.setSlot ch cl e).bridges = s.bridges := rfl
@[simp] theorem State.setSlot_ports (s : State) (ch : Ch) (cl : Client) (e : Option Entry) : (s.setSlot ch cl e).ports = s.ports := rfl
@[simp] theorem State.setSlot_freeIndex (s : State) (ch : Ch) (cl : Client) (e : Option Entry) : (s.setSlot ch cl e).freeIndex = s.freeIndex := rfl
@[simp] theorem State.setSlot_pending (s : State) (ch : Ch) (cl : Client) (e : Option Entry) : (s.setSlot ch cl e).pending = s.pending := rfl

@[simp] theorem State.setClient_powered (s : State) (cl : Client) (r : ClientRecord) : (s.setClient cl r).powered = s.powered := rfl
@[simp] theorem State.setClient_zone (s : State) (cl : Client) (r : ClientRecord) : (s.setClient cl r).zone = s.zone := rfl
@[simp] theorem State.setClient_part (s : State) (cl : Client) (r : ClientRecord) : (s.setClient cl r).part = s.part := rfl
@[simp] theorem State.setClient_quiet (s : State) (cl : Client) (r : ClientRecord) : (s.setClient cl r).quiet = s.quiet := rfl
@[simp] theorem State.setClient_restCh (s : State) (cl : Client) (r : ClientRecord) : (s.setClient cl r).restCh = s.restCh := rfl
@[simp] theorem State.setClient_restIn (s : State) (cl : Client) (r : ClientRecord) : (s.setClient cl r).restIn = s.restIn := rfl
@[simp] theorem State.setClient_chans (s : State) (cl : Client) (r : ClientRecord) : (s.setClient cl r).chans = s.chans := rfl
@[simp] theorem State.setClient_demand (s : State) (cl : Client) (r : ClientRecord) : (s.setClient cl r).demand = s.demand := rfl
@[simp] theorem State.setClient_pins (s : State) (cl : Client) (r : ClientRecord) : (s.setClient cl r).pins = s.pins := rfl
@[simp] theorem State.setClient_placed (s : State) (cl : Client) (r : ClientRecord) : (s.setClient cl r).placed = s.placed := rfl
@[simp] theorem State.setClient_adm (s : State) (cl : Client) (r : ClientRecord) : (s.setClient cl r).adm = s.adm := rfl
@[simp] theorem State.setClient_mon (s : State) (cl : Client) (r : ClientRecord) : (s.setClient cl r).mon = s.mon := rfl
@[simp] theorem State.setClient_groups (s : State) (cl : Client) (r : ClientRecord) : (s.setClient cl r).groups = s.groups := rfl
@[simp] theorem State.setClient_bridges (s : State) (cl : Client) (r : ClientRecord) : (s.setClient cl r).bridges = s.bridges := rfl
@[simp] theorem State.setClient_ports (s : State) (cl : Client) (r : ClientRecord) : (s.setClient cl r).ports = s.ports := rfl
@[simp] theorem State.setClient_freeIndex (s : State) (cl : Client) (r : ClientRecord) : (s.setClient cl r).freeIndex = s.freeIndex := rfl
@[simp] theorem State.setClient_pending (s : State) (cl : Client) (r : ClientRecord) : (s.setClient cl r).pending = s.pending := rfl

@[simp] theorem State.setUnit_powered (s : State) (f : Feed) (u : Admission) : (s.setUnit f u).powered = s.powered := rfl
@[simp] theorem State.setUnit_zone (s : State) (f : Feed) (u : Admission) : (s.setUnit f u).zone = s.zone := rfl
@[simp] theorem State.setUnit_part (s : State) (f : Feed) (u : Admission) : (s.setUnit f u).part = s.part := rfl
@[simp] theorem State.setUnit_quiet (s : State) (f : Feed) (u : Admission) : (s.setUnit f u).quiet = s.quiet := rfl
@[simp] theorem State.setUnit_restCh (s : State) (f : Feed) (u : Admission) : (s.setUnit f u).restCh = s.restCh := rfl
@[simp] theorem State.setUnit_restIn (s : State) (f : Feed) (u : Admission) : (s.setUnit f u).restIn = s.restIn := rfl
@[simp] theorem State.setUnit_chans (s : State) (f : Feed) (u : Admission) : (s.setUnit f u).chans = s.chans := rfl
@[simp] theorem State.setUnit_demand (s : State) (f : Feed) (u : Admission) : (s.setUnit f u).demand = s.demand := rfl
@[simp] theorem State.setUnit_clients (s : State) (f : Feed) (u : Admission) : (s.setUnit f u).clients = s.clients := rfl
@[simp] theorem State.setUnit_pins (s : State) (f : Feed) (u : Admission) : (s.setUnit f u).pins = s.pins := rfl
@[simp] theorem State.setUnit_placed (s : State) (f : Feed) (u : Admission) : (s.setUnit f u).placed = s.placed := rfl
@[simp] theorem State.setUnit_mon (s : State) (f : Feed) (u : Admission) : (s.setUnit f u).mon = s.mon := rfl
@[simp] theorem State.setUnit_groups (s : State) (f : Feed) (u : Admission) : (s.setUnit f u).groups = s.groups := rfl
@[simp] theorem State.setUnit_bridges (s : State) (f : Feed) (u : Admission) : (s.setUnit f u).bridges = s.bridges := rfl
@[simp] theorem State.setUnit_ports (s : State) (f : Feed) (u : Admission) : (s.setUnit f u).ports = s.ports := rfl
@[simp] theorem State.setUnit_freeIndex (s : State) (f : Feed) (u : Admission) : (s.setUnit f u).freeIndex = s.freeIndex := rfl
@[simp] theorem State.setUnit_pending (s : State) (f : Feed) (u : Admission) : (s.setUnit f u).pending = s.pending := rfl

@[simp] theorem State.setMonitor_powered (s : State) (f : Feed) (m : Monitor) : (s.setMonitor f m).powered = s.powered := rfl
@[simp] theorem State.setMonitor_zone (s : State) (f : Feed) (m : Monitor) : (s.setMonitor f m).zone = s.zone := rfl
@[simp] theorem State.setMonitor_part (s : State) (f : Feed) (m : Monitor) : (s.setMonitor f m).part = s.part := rfl
@[simp] theorem State.setMonitor_quiet (s : State) (f : Feed) (m : Monitor) : (s.setMonitor f m).quiet = s.quiet := rfl
@[simp] theorem State.setMonitor_restCh (s : State) (f : Feed) (m : Monitor) : (s.setMonitor f m).restCh = s.restCh := rfl
@[simp] theorem State.setMonitor_restIn (s : State) (f : Feed) (m : Monitor) : (s.setMonitor f m).restIn = s.restIn := rfl
@[simp] theorem State.setMonitor_chans (s : State) (f : Feed) (m : Monitor) : (s.setMonitor f m).chans = s.chans := rfl
@[simp] theorem State.setMonitor_demand (s : State) (f : Feed) (m : Monitor) : (s.setMonitor f m).demand = s.demand := rfl
@[simp] theorem State.setMonitor_clients (s : State) (f : Feed) (m : Monitor) : (s.setMonitor f m).clients = s.clients := rfl
@[simp] theorem State.setMonitor_pins (s : State) (f : Feed) (m : Monitor) : (s.setMonitor f m).pins = s.pins := rfl
@[simp] theorem State.setMonitor_placed (s : State) (f : Feed) (m : Monitor) : (s.setMonitor f m).placed = s.placed := rfl
@[simp] theorem State.setMonitor_adm (s : State) (f : Feed) (m : Monitor) : (s.setMonitor f m).adm = s.adm := rfl
@[simp] theorem State.setMonitor_groups (s : State) (f : Feed) (m : Monitor) : (s.setMonitor f m).groups = s.groups := rfl
@[simp] theorem State.setMonitor_bridges (s : State) (f : Feed) (m : Monitor) : (s.setMonitor f m).bridges = s.bridges := rfl
@[simp] theorem State.setMonitor_ports (s : State) (f : Feed) (m : Monitor) : (s.setMonitor f m).ports = s.ports := rfl
@[simp] theorem State.setMonitor_freeIndex (s : State) (f : Feed) (m : Monitor) : (s.setMonitor f m).freeIndex = s.freeIndex := rfl
@[simp] theorem State.setMonitor_pending (s : State) (f : Feed) (m : Monitor) : (s.setMonitor f m).pending = s.pending := rfl

@[simp] theorem State.setGroup_powered (s : State) (g : Group) (r : FlashGroup) : (s.setGroup g r).powered = s.powered := rfl
@[simp] theorem State.setGroup_zone (s : State) (g : Group) (r : FlashGroup) : (s.setGroup g r).zone = s.zone := rfl
@[simp] theorem State.setGroup_part (s : State) (g : Group) (r : FlashGroup) : (s.setGroup g r).part = s.part := rfl
@[simp] theorem State.setGroup_quiet (s : State) (g : Group) (r : FlashGroup) : (s.setGroup g r).quiet = s.quiet := rfl
@[simp] theorem State.setGroup_restCh (s : State) (g : Group) (r : FlashGroup) : (s.setGroup g r).restCh = s.restCh := rfl
@[simp] theorem State.setGroup_restIn (s : State) (g : Group) (r : FlashGroup) : (s.setGroup g r).restIn = s.restIn := rfl
@[simp] theorem State.setGroup_chans (s : State) (g : Group) (r : FlashGroup) : (s.setGroup g r).chans = s.chans := rfl
@[simp] theorem State.setGroup_demand (s : State) (g : Group) (r : FlashGroup) : (s.setGroup g r).demand = s.demand := rfl
@[simp] theorem State.setGroup_clients (s : State) (g : Group) (r : FlashGroup) : (s.setGroup g r).clients = s.clients := rfl
@[simp] theorem State.setGroup_pins (s : State) (g : Group) (r : FlashGroup) : (s.setGroup g r).pins = s.pins := rfl
@[simp] theorem State.setGroup_placed (s : State) (g : Group) (r : FlashGroup) : (s.setGroup g r).placed = s.placed := rfl
@[simp] theorem State.setGroup_adm (s : State) (g : Group) (r : FlashGroup) : (s.setGroup g r).adm = s.adm := rfl
@[simp] theorem State.setGroup_mon (s : State) (g : Group) (r : FlashGroup) : (s.setGroup g r).mon = s.mon := rfl
@[simp] theorem State.setGroup_bridges (s : State) (g : Group) (r : FlashGroup) : (s.setGroup g r).bridges = s.bridges := rfl
@[simp] theorem State.setGroup_ports (s : State) (g : Group) (r : FlashGroup) : (s.setGroup g r).ports = s.ports := rfl
@[simp] theorem State.setGroup_freeIndex (s : State) (g : Group) (r : FlashGroup) : (s.setGroup g r).freeIndex = s.freeIndex := rfl
@[simp] theorem State.setGroup_pending (s : State) (g : Group) (r : FlashGroup) : (s.setGroup g r).pending = s.pending := rfl

@[simp] theorem State.setBridge_powered (s : State) (br : Bridge) (r : BridgeRecord) : (s.setBridge br r).powered = s.powered := rfl
@[simp] theorem State.setBridge_zone (s : State) (br : Bridge) (r : BridgeRecord) : (s.setBridge br r).zone = s.zone := rfl
@[simp] theorem State.setBridge_part (s : State) (br : Bridge) (r : BridgeRecord) : (s.setBridge br r).part = s.part := rfl
@[simp] theorem State.setBridge_quiet (s : State) (br : Bridge) (r : BridgeRecord) : (s.setBridge br r).quiet = s.quiet := rfl
@[simp] theorem State.setBridge_restCh (s : State) (br : Bridge) (r : BridgeRecord) : (s.setBridge br r).restCh = s.restCh := rfl
@[simp] theorem State.setBridge_restIn (s : State) (br : Bridge) (r : BridgeRecord) : (s.setBridge br r).restIn = s.restIn := rfl
@[simp] theorem State.setBridge_chans (s : State) (br : Bridge) (r : BridgeRecord) : (s.setBridge br r).chans = s.chans := rfl
@[simp] theorem State.setBridge_demand (s : State) (br : Bridge) (r : BridgeRecord) : (s.setBridge br r).demand = s.demand := rfl
@[simp] theorem State.setBridge_clients (s : State) (br : Bridge) (r : BridgeRecord) : (s.setBridge br r).clients = s.clients := rfl
@[simp] theorem State.setBridge_pins (s : State) (br : Bridge) (r : BridgeRecord) : (s.setBridge br r).pins = s.pins := rfl
@[simp] theorem State.setBridge_placed (s : State) (br : Bridge) (r : BridgeRecord) : (s.setBridge br r).placed = s.placed := rfl
@[simp] theorem State.setBridge_adm (s : State) (br : Bridge) (r : BridgeRecord) : (s.setBridge br r).adm = s.adm := rfl
@[simp] theorem State.setBridge_mon (s : State) (br : Bridge) (r : BridgeRecord) : (s.setBridge br r).mon = s.mon := rfl
@[simp] theorem State.setBridge_groups (s : State) (br : Bridge) (r : BridgeRecord) : (s.setBridge br r).groups = s.groups := rfl
@[simp] theorem State.setBridge_ports (s : State) (br : Bridge) (r : BridgeRecord) : (s.setBridge br r).ports = s.ports := rfl
@[simp] theorem State.setBridge_freeIndex (s : State) (br : Bridge) (r : BridgeRecord) : (s.setBridge br r).freeIndex = s.freeIndex := rfl
@[simp] theorem State.setBridge_pending (s : State) (br : Bridge) (r : BridgeRecord) : (s.setBridge br r).pending = s.pending := rfl

@[simp] theorem State.setPort_powered (s : State) (p : Port) (r : PortRecord) : (s.setPort p r).powered = s.powered := rfl
@[simp] theorem State.setPort_zone (s : State) (p : Port) (r : PortRecord) : (s.setPort p r).zone = s.zone := rfl
@[simp] theorem State.setPort_part (s : State) (p : Port) (r : PortRecord) : (s.setPort p r).part = s.part := rfl
@[simp] theorem State.setPort_quiet (s : State) (p : Port) (r : PortRecord) : (s.setPort p r).quiet = s.quiet := rfl
@[simp] theorem State.setPort_restCh (s : State) (p : Port) (r : PortRecord) : (s.setPort p r).restCh = s.restCh := rfl
@[simp] theorem State.setPort_restIn (s : State) (p : Port) (r : PortRecord) : (s.setPort p r).restIn = s.restIn := rfl
@[simp] theorem State.setPort_chans (s : State) (p : Port) (r : PortRecord) : (s.setPort p r).chans = s.chans := rfl
@[simp] theorem State.setPort_demand (s : State) (p : Port) (r : PortRecord) : (s.setPort p r).demand = s.demand := rfl
@[simp] theorem State.setPort_clients (s : State) (p : Port) (r : PortRecord) : (s.setPort p r).clients = s.clients := rfl
@[simp] theorem State.setPort_pins (s : State) (p : Port) (r : PortRecord) : (s.setPort p r).pins = s.pins := rfl
@[simp] theorem State.setPort_placed (s : State) (p : Port) (r : PortRecord) : (s.setPort p r).placed = s.placed := rfl
@[simp] theorem State.setPort_adm (s : State) (p : Port) (r : PortRecord) : (s.setPort p r).adm = s.adm := rfl
@[simp] theorem State.setPort_mon (s : State) (p : Port) (r : PortRecord) : (s.setPort p r).mon = s.mon := rfl
@[simp] theorem State.setPort_groups (s : State) (p : Port) (r : PortRecord) : (s.setPort p r).groups = s.groups := rfl
@[simp] theorem State.setPort_bridges (s : State) (p : Port) (r : PortRecord) : (s.setPort p r).bridges = s.bridges := rfl
@[simp] theorem State.setPort_freeIndex (s : State) (p : Port) (r : PortRecord) : (s.setPort p r).freeIndex = s.freeIndex := rfl
@[simp] theorem State.setPort_pending (s : State) (p : Port) (r : PortRecord) : (s.setPort p r).pending = s.pending := rfl

/-! ### What a write leaves alone, read by read -/

@[simp] theorem State.slot_setChan (s : State) (ch : Ch) (c : Channel) (x : Ch) (y : Client) :
    (s.setChan ch c).slot x y = s.slot x y := rfl
@[simp] theorem State.client_setChan (s : State) (ch : Ch) (c : Channel) (x : Client) :
    (s.setChan ch c).client x = s.client x := rfl
@[simp] theorem State.unit_setChan (s : State) (ch : Ch) (c : Channel) (x : Feed) :
    (s.setChan ch c).unit x = s.unit x := rfl
@[simp] theorem State.monitor_setChan (s : State) (ch : Ch) (c : Channel) (x : Feed) :
    (s.setChan ch c).monitor x = s.monitor x := rfl
@[simp] theorem State.group_setChan (s : State) (ch : Ch) (c : Channel) (x : Group) :
    (s.setChan ch c).group x = s.group x := rfl
@[simp] theorem State.bridge_setChan (s : State) (ch : Ch) (c : Channel) (x : Bridge) :
    (s.setChan ch c).bridge x = s.bridge x := rfl
@[simp] theorem State.port_setChan (s : State) (ch : Ch) (c : Channel) (x : Port) :
    (s.setChan ch c).port x = s.port x := rfl
@[simp] theorem State.level_setChan (s : State) (ch : Ch) (c : Channel) (x : Pin) :
    (s.setChan ch c).level x = s.level x := rfl

@[simp] theorem State.chan_setSlot (s : State) (ch : Ch) (cl : Client) (e : Option Entry) (x : Ch) :
    (s.setSlot ch cl e).chan x = s.chan x := rfl
@[simp] theorem State.client_setSlot (s : State) (ch : Ch) (cl : Client) (e : Option Entry) (x : Client) :
    (s.setSlot ch cl e).client x = s.client x := rfl
@[simp] theorem State.unit_setSlot (s : State) (ch : Ch) (cl : Client) (e : Option Entry) (x : Feed) :
    (s.setSlot ch cl e).unit x = s.unit x := rfl
@[simp] theorem State.monitor_setSlot (s : State) (ch : Ch) (cl : Client) (e : Option Entry) (x : Feed) :
    (s.setSlot ch cl e).monitor x = s.monitor x := rfl
@[simp] theorem State.group_setSlot (s : State) (ch : Ch) (cl : Client) (e : Option Entry) (x : Group) :
    (s.setSlot ch cl e).group x = s.group x := rfl
@[simp] theorem State.bridge_setSlot (s : State) (ch : Ch) (cl : Client) (e : Option Entry) (x : Bridge) :
    (s.setSlot ch cl e).bridge x = s.bridge x := rfl
@[simp] theorem State.port_setSlot (s : State) (ch : Ch) (cl : Client) (e : Option Entry) (x : Port) :
    (s.setSlot ch cl e).port x = s.port x := rfl
@[simp] theorem State.level_setSlot (s : State) (ch : Ch) (cl : Client) (e : Option Entry) (x : Pin) :
    (s.setSlot ch cl e).level x = s.level x := rfl

@[simp] theorem State.chan_setClient (s : State) (cl : Client) (r : ClientRecord) (x : Ch) :
    (s.setClient cl r).chan x = s.chan x := rfl
@[simp] theorem State.slot_setClient (s : State) (cl : Client) (r : ClientRecord) (x : Ch) (y : Client) :
    (s.setClient cl r).slot x y = s.slot x y := rfl
@[simp] theorem State.unit_setClient (s : State) (cl : Client) (r : ClientRecord) (x : Feed) :
    (s.setClient cl r).unit x = s.unit x := rfl
@[simp] theorem State.monitor_setClient (s : State) (cl : Client) (r : ClientRecord) (x : Feed) :
    (s.setClient cl r).monitor x = s.monitor x := rfl
@[simp] theorem State.group_setClient (s : State) (cl : Client) (r : ClientRecord) (x : Group) :
    (s.setClient cl r).group x = s.group x := rfl
@[simp] theorem State.bridge_setClient (s : State) (cl : Client) (r : ClientRecord) (x : Bridge) :
    (s.setClient cl r).bridge x = s.bridge x := rfl
@[simp] theorem State.port_setClient (s : State) (cl : Client) (r : ClientRecord) (x : Port) :
    (s.setClient cl r).port x = s.port x := rfl
@[simp] theorem State.level_setClient (s : State) (cl : Client) (r : ClientRecord) (x : Pin) :
    (s.setClient cl r).level x = s.level x := rfl

@[simp] theorem State.chan_setUnit (s : State) (f : Feed) (u : Admission) (x : Ch) :
    (s.setUnit f u).chan x = s.chan x := rfl
@[simp] theorem State.slot_setUnit (s : State) (f : Feed) (u : Admission) (x : Ch) (y : Client) :
    (s.setUnit f u).slot x y = s.slot x y := rfl
@[simp] theorem State.client_setUnit (s : State) (f : Feed) (u : Admission) (x : Client) :
    (s.setUnit f u).client x = s.client x := rfl
@[simp] theorem State.monitor_setUnit (s : State) (f : Feed) (u : Admission) (x : Feed) :
    (s.setUnit f u).monitor x = s.monitor x := rfl
@[simp] theorem State.group_setUnit (s : State) (f : Feed) (u : Admission) (x : Group) :
    (s.setUnit f u).group x = s.group x := rfl
@[simp] theorem State.bridge_setUnit (s : State) (f : Feed) (u : Admission) (x : Bridge) :
    (s.setUnit f u).bridge x = s.bridge x := rfl
@[simp] theorem State.port_setUnit (s : State) (f : Feed) (u : Admission) (x : Port) :
    (s.setUnit f u).port x = s.port x := rfl
@[simp] theorem State.level_setUnit (s : State) (f : Feed) (u : Admission) (x : Pin) :
    (s.setUnit f u).level x = s.level x := rfl

@[simp] theorem State.chan_setMonitor (s : State) (f : Feed) (m : Monitor) (x : Ch) :
    (s.setMonitor f m).chan x = s.chan x := rfl
@[simp] theorem State.slot_setMonitor (s : State) (f : Feed) (m : Monitor) (x : Ch) (y : Client) :
    (s.setMonitor f m).slot x y = s.slot x y := rfl
@[simp] theorem State.client_setMonitor (s : State) (f : Feed) (m : Monitor) (x : Client) :
    (s.setMonitor f m).client x = s.client x := rfl
@[simp] theorem State.unit_setMonitor (s : State) (f : Feed) (m : Monitor) (x : Feed) :
    (s.setMonitor f m).unit x = s.unit x := rfl
@[simp] theorem State.group_setMonitor (s : State) (f : Feed) (m : Monitor) (x : Group) :
    (s.setMonitor f m).group x = s.group x := rfl
@[simp] theorem State.bridge_setMonitor (s : State) (f : Feed) (m : Monitor) (x : Bridge) :
    (s.setMonitor f m).bridge x = s.bridge x := rfl
@[simp] theorem State.port_setMonitor (s : State) (f : Feed) (m : Monitor) (x : Port) :
    (s.setMonitor f m).port x = s.port x := rfl
@[simp] theorem State.level_setMonitor (s : State) (f : Feed) (m : Monitor) (x : Pin) :
    (s.setMonitor f m).level x = s.level x := rfl

@[simp] theorem State.chan_setGroup (s : State) (g : Group) (r : FlashGroup) (x : Ch) :
    (s.setGroup g r).chan x = s.chan x := rfl
@[simp] theorem State.slot_setGroup (s : State) (g : Group) (r : FlashGroup) (x : Ch) (y : Client) :
    (s.setGroup g r).slot x y = s.slot x y := rfl
@[simp] theorem State.client_setGroup (s : State) (g : Group) (r : FlashGroup) (x : Client) :
    (s.setGroup g r).client x = s.client x := rfl
@[simp] theorem State.unit_setGroup (s : State) (g : Group) (r : FlashGroup) (x : Feed) :
    (s.setGroup g r).unit x = s.unit x := rfl
@[simp] theorem State.monitor_setGroup (s : State) (g : Group) (r : FlashGroup) (x : Feed) :
    (s.setGroup g r).monitor x = s.monitor x := rfl
@[simp] theorem State.bridge_setGroup (s : State) (g : Group) (r : FlashGroup) (x : Bridge) :
    (s.setGroup g r).bridge x = s.bridge x := rfl
@[simp] theorem State.port_setGroup (s : State) (g : Group) (r : FlashGroup) (x : Port) :
    (s.setGroup g r).port x = s.port x := rfl
@[simp] theorem State.level_setGroup (s : State) (g : Group) (r : FlashGroup) (x : Pin) :
    (s.setGroup g r).level x = s.level x := rfl

@[simp] theorem State.chan_setBridge (s : State) (br : Bridge) (r : BridgeRecord) (x : Ch) :
    (s.setBridge br r).chan x = s.chan x := rfl
@[simp] theorem State.slot_setBridge (s : State) (br : Bridge) (r : BridgeRecord) (x : Ch) (y : Client) :
    (s.setBridge br r).slot x y = s.slot x y := rfl
@[simp] theorem State.client_setBridge (s : State) (br : Bridge) (r : BridgeRecord) (x : Client) :
    (s.setBridge br r).client x = s.client x := rfl
@[simp] theorem State.unit_setBridge (s : State) (br : Bridge) (r : BridgeRecord) (x : Feed) :
    (s.setBridge br r).unit x = s.unit x := rfl
@[simp] theorem State.monitor_setBridge (s : State) (br : Bridge) (r : BridgeRecord) (x : Feed) :
    (s.setBridge br r).monitor x = s.monitor x := rfl
@[simp] theorem State.group_setBridge (s : State) (br : Bridge) (r : BridgeRecord) (x : Group) :
    (s.setBridge br r).group x = s.group x := rfl
@[simp] theorem State.port_setBridge (s : State) (br : Bridge) (r : BridgeRecord) (x : Port) :
    (s.setBridge br r).port x = s.port x := rfl
@[simp] theorem State.level_setBridge (s : State) (br : Bridge) (r : BridgeRecord) (x : Pin) :
    (s.setBridge br r).level x = s.level x := rfl

@[simp] theorem State.chan_setPort (s : State) (p : Port) (r : PortRecord) (x : Ch) :
    (s.setPort p r).chan x = s.chan x := rfl
@[simp] theorem State.slot_setPort (s : State) (p : Port) (r : PortRecord) (x : Ch) (y : Client) :
    (s.setPort p r).slot x y = s.slot x y := rfl
@[simp] theorem State.client_setPort (s : State) (p : Port) (r : PortRecord) (x : Client) :
    (s.setPort p r).client x = s.client x := rfl
@[simp] theorem State.unit_setPort (s : State) (p : Port) (r : PortRecord) (x : Feed) :
    (s.setPort p r).unit x = s.unit x := rfl
@[simp] theorem State.monitor_setPort (s : State) (p : Port) (r : PortRecord) (x : Feed) :
    (s.setPort p r).monitor x = s.monitor x := rfl
@[simp] theorem State.group_setPort (s : State) (p : Port) (r : PortRecord) (x : Group) :
    (s.setPort p r).group x = s.group x := rfl
@[simp] theorem State.bridge_setPort (s : State) (p : Port) (r : PortRecord) (x : Bridge) :
    (s.setPort p r).bridge x = s.bridge x := rfl
@[simp] theorem State.level_setPort (s : State) (p : Port) (r : PortRecord) (x : Pin) :
    (s.setPort p r).level x = s.level x := rfl

/-! ### Like changes of the sixteen channels -/

@[simp] theorem mapChannels_get {α β : Type} (f : α → β) (v : Vector α 16) (ch : Ch) :
    (mapChannels f v)[ch] = f v[ch] := by
  unfold mapChannels; simp

end Sys2Proof.Machine
end

