-- ==== Sys2Proof/Laws/Footprint.lean ====
section
/-!
SUPPORT. What each shared operation may touch. `OnlyPorts`, `OnlyAdmission`, `OnlyDemand` and `OnlyBlocks`
say which fields two states may differ in; every shared operation has one lemma that places it. A proof
about a field an operation does not touch reads it off with the projections below.
-/
namespace Sys2Proof.Machine

/-- The two states differ at most in the link ports. -/
def OnlyPorts (s t : State) : Prop := t = { s with ports := t.ports }

/-- The two states differ at most in channel records, admission units and bridges. -/
def OnlyAdmission (s t : State) : Prop :=
  t = { s with chans := t.chans, adm := t.adm, bridges := t.bridges }

/-- The two states differ at most in channels, admission units, bridges, demand entries, flash groups,
placed sets and ports. -/
def OnlyDemand (s t : State) : Prop :=
  t = { s with chans := t.chans, adm := t.adm, bridges := t.bridges, demand := t.demand
               groups := t.groups, placed := t.placed, ports := t.ports }

/-- The two states differ at most in the blocks' records: not in power, zone, part state, quiet timer,
rest conditions, pins, free index or queue of commands. -/
def OnlyBlocks (s t : State) : Prop :=
  t = { s with chans := t.chans, adm := t.adm, bridges := t.bridges, demand := t.demand
               groups := t.groups, placed := t.placed, ports := t.ports, clients := t.clients
               mon := t.mon }

/-! ### The relations compose -/

theorem OnlyPorts.refl (s : State) : OnlyPorts s s := rfl
theorem OnlyAdmission.refl (s : State) : OnlyAdmission s s := rfl
theorem OnlyDemand.refl (s : State) : OnlyDemand s s := rfl
theorem OnlyBlocks.refl (s : State) : OnlyBlocks s s := rfl

theorem OnlyPorts.trans {s t u : State} (h : OnlyPorts s t) (k : OnlyPorts t u) : OnlyPorts s u := by
  unfold OnlyPorts at *; rw [k, h]

theorem OnlyAdmission.trans {s t u : State} (h : OnlyAdmission s t) (k : OnlyAdmission t u) :
    OnlyAdmission s u := by unfold OnlyAdmission at *; rw [k, h]

theorem OnlyDemand.trans {s t u : State} (h : OnlyDemand s t) (k : OnlyDemand t u) :
    OnlyDemand s u := by unfold OnlyDemand at *; rw [k, h]

theorem OnlyBlocks.trans {s t u : State} (h : OnlyBlocks s t) (k : OnlyBlocks t u) :
    OnlyBlocks s u := by unfold OnlyBlocks at *; rw [k, h]

theorem OnlyPorts.toDemand {s t : State} (h : OnlyPorts s t) : OnlyDemand s t := by
  unfold OnlyPorts OnlyDemand at *; rw [h]

theorem OnlyAdmission.toDemand {s t : State} (h : OnlyAdmission s t) : OnlyDemand s t := by
  unfold OnlyAdmission OnlyDemand at *; rw [h]

theorem OnlyDemand.toBlocks {s t : State} (h : OnlyDemand s t) : OnlyBlocks s t := by
  unfold OnlyDemand OnlyBlocks at *; rw [h]

theorem OnlyPorts.toBlocks {s t : State} (h : OnlyPorts s t) : OnlyBlocks s t := h.toDemand.toBlocks

theorem OnlyAdmission.toBlocks {s t : State} (h : OnlyAdmission s t) : OnlyBlocks s t :=
  h.toDemand.toBlocks

/-- A change applied over a list stays within a relation that each single change stays within. -/
theorem foldl_within {α : Type} {R : State → State → Prop} (refl : ∀ s, R s s)
    (trans : ∀ {s t u}, R s t → R t u → R s u) {f : State → α → State} (h : ∀ s x, R s (f s x)) :
    ∀ (l : List α) (s : State), R s (l.foldl f s)
  | [], s => refl s
  | x :: l, s => trans (h s x) (foldl_within refl trans h l (f s x))

/-! ### The writes -/

theorem only_setPort (s : State) (p : Port) (r : PortRecord) : OnlyPorts s (s.setPort p r) := rfl
theorem only_setChan (s : State) (ch : Ch) (c : Channel) : OnlyAdmission s (s.setChan ch c) := rfl
theorem only_setUnit (s : State) (f : Feed) (u : Admission) : OnlyAdmission s (s.setUnit f u) := rfl
theorem only_setBridge (s : State) (br : Bridge) (r : BridgeRecord) :
    OnlyAdmission s (s.setBridge br r) := rfl
theorem only_setSlot (s : State) (ch : Ch) (cl : Client) (e : Option Entry) :
    OnlyDemand s (s.setSlot ch cl e) := rfl
theorem only_setGroup (s : State) (g : Group) (r : FlashGroup) : OnlyDemand s (s.setGroup g r) := rfl
theorem only_setClient (s : State) (cl : Client) (r : ClientRecord) :
    OnlyBlocks s (s.setClient cl r) := rfl
theorem only_setMonitor (s : State) (f : Feed) (m : Monitor) : OnlyBlocks s (s.setMonitor f m) := rfl

/-! ### Ports -/

theorem only_offerEvent (s : State) (e : Event) : OnlyPorts s (s.offerEvent e) := rfl

theorem only_offerReply (s : State) (p : Port) (kind : Byte) (cl : Client) (code : RefusalCode)
    (b : Byte) : OnlyPorts s (s.offerReply p kind cl code b) := rfl

theorem only_offerSummary (s : State) (p : Port) : OnlyPorts s (s.offerSummary p) := by
  unfold State.offerSummary; dsimp only; split <;> rfl

theorem only_statusRound (s : State) (p : Port) : OnlyPorts s (s.statusRound p) :=
  (only_offerSummary s p).trans
    (foldl_within OnlyPorts.refl OnlyPorts.trans (fun _ _ => only_setPort _ _ _) _ _)

theorem only_restartStatus (s : State) (p : Port) : OnlyPorts s (s.restartStatus p) :=
  (only_setPort _ _ _).trans (only_statusRound _ _)

theorem only_checkRead (s : State) (p : Port) : OnlyPorts s (s.checkRead p) := by
  unfold State.checkRead; dsimp only; split
  · rfl
  · split <;> rfl

theorem only_departure (s : State) (p : Port) : OnlyPorts s (s.departure p) := by
  unfold State.departure; dsimp only; split
  · rfl
  · split
    · exact (only_setPort _ _ _).trans (only_checkRead _ _)
    · rfl

theorem only_transmitError (s : State) (p : Port) : OnlyPorts s (s.transmitError p) := by
  unfold State.transmitError; dsimp only; split <;> rfl

theorem only_recoverPort (s : State) (p : Port) : OnlyPorts s (s.recoverPort p) := by
  unfold State.recoverPort; dsimp only; split
  · exact (only_setPort _ _ _).trans (only_restartStatus _ _)
  · rfl

theorem only_seeActivity (s : State) (p : Port) : OnlyPorts s (s.seeActivity p) := by
  unfold State.seeActivity; dsimp only; split <;> rfl

/-! ### Admission -/

theorem only_startBridge (s : State) (br : Bridge) : OnlyAdmission s (s.startBridge br) := rfl

theorem only_enterRamping (s : State) (ch : Ch) (n : Nat) : OnlyAdmission s (s.enterRamping ch n) := by
  unfold State.enterRamping; dsimp only; split <;> rfl

theorem only_overChannels {R : State → State → Prop} (refl : ∀ s, R s s)
    (trans : ∀ {s t u}, R s t → R t u → R s u) {f : Ch → State → State}
    (h : ∀ ch s, R s (f ch s)) (s : State) (l : List Ch) : R s (s.overChannels f l) :=
  foldl_within refl trans (f := fun s x => f x s) (fun s x => h x s) l s

theorem only_overSlots {R : State → State → Prop} (refl : ∀ s, R s s)
    (trans : ∀ {s t u}, R s t → R t u → R s u) {f : Ch → Client → State → State}
    (h : ∀ ch cl s, R s (f ch cl s)) (s : State) (l : List (Ch × Client)) : R s (s.overSlots f l) :=
  foldl_within (α := Ch × Client) refl trans (f := fun s x => f x.1 x.2 s) (fun s x => h x.1 x.2 s) l s

theorem only_renumber (s : State) (f : Feed) : OnlyAdmission s (s.renumber f) :=
  (only_overChannels OnlyAdmission.refl OnlyAdmission.trans (fun _ _ => only_setChan _ _ _) _ _).trans
    (only_setUnit _ _ _)

theorem only_countAdmission (s : State) (f : Feed) : OnlyAdmission s (s.countAdmission f) := by
  unfold State.countAdmission; dsimp only; split
  · rfl
  · exact (only_renumber s f).trans (only_setUnit _ _ _)

theorem only_addClaims (s : State) (ch : Ch) : OnlyAdmission s (s.addClaims ch) := rfl
theorem only_releaseClaims (s : State) (ch : Ch) : OnlyAdmission s (s.releaseClaims ch) := rfl
theorem only_place (s : State) (ch : Ch) : OnlyAdmission s (s.place ch) := rfl
theorem only_dequeue (s : State) (ch : Ch) : OnlyAdmission s (s.dequeue ch) := rfl

theorem only_admit (s : State) (ch : Ch) : OnlyAdmission s (s.admitChannel ch) :=
  ((only_addClaims s ch).trans (only_countAdmission _ _)).trans (only_enterRamping _ _ _)

theorem only_examineHeads (f : Feed) : ∀ (n : Nat) (s : State), OnlyAdmission s (State.examineHeads f n s)
  | 0, s => OnlyAdmission.refl s
  | n + 1, s => by
    unfold State.examineHeads; split
    · rfl
    · split
      · exact ((only_setUnit _ _ _).trans (only_admit _ _)).trans (only_examineHeads f n _)
      · rfl

theorem only_examine (s : State) (f : Feed) : OnlyAdmission s (s.examine f) := only_examineHeads _ _ _

theorem only_leaveTo (s : State) (ch : Ch) (dest : ChState) : OnlyAdmission s (s.leaveTo ch dest) := by
  unfold State.leaveTo; dsimp only; split <;> rfl

theorem only_start (s : State) (ch : Ch) : OnlyAdmission s (s.start ch) := by
  unfold State.start; split
  · exact only_admit _ _
  · exact (only_place _ _).trans (only_examine _ _)
  · rfl

theorem only_wishBegins (s : State) (ch : Ch) : OnlyAdmission s (s.wishBegins ch) := by
  unfold State.wishBegins; split
  · exact only_start _ _
  · rfl

theorem only_wishEnds (s : State) (x : Bool) (ch : Ch) : OnlyAdmission s (s.wishEnds x ch) := by
  unfold State.wishEnds; split
  · rfl
  · rfl
  · rfl
  · dsimp only; split
    · exact (only_leaveTo _ _ _).trans (only_examine _ _)
    · exact only_leaveTo _ _ _

theorem only_recompute (s : State) (x : Bool) (ch : Ch) : OnlyAdmission s (s.recompute x ch) := by
  unfold State.recompute; dsimp only; split
  · rfl
  · split
    · rfl
    · split
      · exact (only_setChan _ _ _).trans (only_wishBegins _ _)
      · exact (only_setChan _ _ _).trans (only_wishEnds _ _ _)

theorem only_recomputed (s : State) (ch : Ch) : OnlyAdmission s (s.recomputed ch) := only_recompute _ _ _

theorem only_placeBatch (s : State) (f : Feed) (l : List Ch) : OnlyAdmission s (s.placeBatch f l) :=
  (only_overChannels OnlyAdmission.refl OnlyAdmission.trans (fun _ _ => only_place _ _) _ _).trans
    (only_examine _ _)

/-! ### Bridges -/

theorem only_removeDrive (s : State) (x : Bool) (br : Bridge) : OnlyDemand s (s.removeDrive x br) := by
  unfold State.removeDrive; dsimp only; split
  · rfl
  · exact ((only_setSlot _ _ _ _).trans (only_setBridge _ _ _).toDemand).trans
      (only_recompute _ _ _).toDemand

theorem only_markEnding (s : State) (br : Bridge) : OnlyDemand s (s.markEnding br) := by
  unfold State.markEnding; split <;> rfl

theorem only_offerDriveEnd (s : State) (br : Bridge) (c : DriveCause) (u : Bool) :
    OnlyPorts s (s.offerDriveEnd br c u) := by
  unfold State.offerDriveEnd; dsimp only; split <;> rfl

theorem only_endDrive (s : State) (br : Bridge) (c : DriveCause) : OnlyDemand s (s.endDrive br c) :=
  ((only_markEnding _ _).trans (only_offerDriveEnd _ _ _ _).toDemand).trans
    (only_setBridge _ _ _).toDemand

theorem only_finishDrive (s : State) (br : Bridge) : OnlyDemand s (s.finishDrive br) :=
  (only_setBridge _ _ _).toDemand.trans (only_removeDrive _ _ _)

theorem only_handedEnd (s : State) (br : Bridge) (c : DriveCause) : OnlyDemand s (s.handedEnd br c) := by
  unfold State.handedEnd; dsimp only; split
  · split
    · exact only_endDrive _ _ _
    · exact (only_offerDriveEnd _ _ _ _).toDemand.trans (only_finishDrive _ _)
    · exact (only_offerDriveEnd _ _ _ _).toDemand.trans (only_finishDrive _ _)
    · exact (only_offerDriveEnd _ _ _ _).toDemand.trans (only_setBridge _ _ _).toDemand
  · exact (only_offerDriveEnd _ _ _ _).toDemand.trans (only_finishDrive _ _)

theorem only_endEntry (s : State) (ch : Ch) (cl : Client) (c : DriveCause) :
    OnlyDemand s (s.endEntry ch cl c) := by
  unfold State.endEntry; split
  · exact (only_setSlot _ _ _ _).trans (only_handedEnd _ _ _)
  · rfl

theorem only_driveTaken (s : State) (br : Bridge) (d : Direction) (n : Nat) :
    OnlyAdmission s (s.driveTaken br d n) := by
  unfold State.driveTaken; dsimp only; split
  · rfl
  · rfl
  · split <;> rfl
  · rfl

theorem only_dropDrive (s : State) (x : Bool) (br : Bridge) (c : DriveCause) :
    OnlyDemand s (s.dropDrive x br c) :=
  ((only_offerDriveEnd _ _ _ _).toDemand.trans (only_setBridge _ _ _).toDemand).trans
    (only_removeDrive _ _ _)

theorem only_storeDriveCurrent (s : State) (br : Bridge) (o : Option Nat) :
    OnlyAdmission s (s.storeDriveCurrent br o) := by
  unfold State.storeDriveCurrent; split <;> rfl

theorem only_stallCheck (s : State) (br : Bridge) (o : Option Nat) :
    OnlyDemand s (s.stallCheck br o) := by
  unfold State.stallCheck; dsimp only; split
  · split
    · exact (only_setBridge _ _ _).toDemand.trans (only_endDrive _ _ _)
    · rfl
  · rfl

/-! ### Demand entries and flash groups -/

theorem only_startSlot (g : Group) (ch : Ch) (cl : Client) (s : State) :
    OnlyDemand s (State.startSlot g ch cl s) := by
  unfold State.startSlot; split <;> rfl

theorem only_startCycle (s : State) (g : Group) : OnlyDemand s (s.startCycle g) := rfl

theorem only_handGroup (l : List (Ch × Client)) (g : Group) (s : State) :
    OnlyDemand s (State.handGroup l g s) := by
  unfold State.handGroup; split
  · exact (only_startCycle _ _).trans
      (only_overSlots OnlyDemand.refl OnlyDemand.trans (fun _ _ _ => only_startSlot _ _ _ _) _ _)
  · rfl

theorem only_handFlash (s : State) (l : List (Ch × Client)) : OnlyDemand s (s.handFlash l) :=
  (only_handGroup _ _ _).trans (only_handGroup _ _ _)

theorem only_putEntry (s : State) (ch : Ch) (cl : Client) (e : Entry) :
    OnlyDemand s (s.putEntry ch cl e) := (only_setSlot _ _ _ _).trans (only_handFlash _ _)

theorem only_recordEntry (s : State) (ch : Ch) (cl : Client) (e : Entry) :
    OnlyDemand s (s.recordEntry ch cl e) :=
  (only_putEntry _ _ _ _).trans (only_recomputed _ _).toDemand

theorem only_removeEntry (s : State) (ch : Ch) (cl : Client) : OnlyDemand s (s.removeEntry ch cl) := by
  unfold State.removeEntry; split
  · rfl
  · exact (only_setSlot _ _ _ _).trans (only_recomputed _ _).toDemand

theorem only_releaseEntry (s : State) (cl : Client) (ch : Ch) : OnlyDemand s (s.releaseEntry cl ch) := by
  unfold State.releaseEntry; split
  · exact only_endEntry _ _ _ _
  · exact only_removeEntry _ _ _

theorem only_placeWired (s : State) (i : WiredInput) : OnlyDemand s (s.placeWired i) := by
  unfold State.placeWired; dsimp only
  refine OnlyDemand.trans ?_ (only_handFlash _ _)
  exact (only_overChannels OnlyDemand.refl OnlyDemand.trans (f := fun ch t =>
    t.setSlot ch .wired (some (t.chan ch).profile.wiredEntry)) (fun _ _ => only_setSlot _ _ _ _) s
    (s.boundChannels i)).trans rfl

theorem only_activateInput (s : State) (i : WiredInput) : OnlyDemand s (s.activateInput i) :=
  (only_placeWired _ _).trans (only_overChannels OnlyDemand.refl OnlyDemand.trans
    (fun _ _ => (only_recomputed _ _).toDemand) _ _)

theorem only_deactivateInput (s : State) (i : WiredInput) : OnlyDemand s (s.deactivateInput i) := by
  unfold State.deactivateInput; dsimp only
  have h : OnlyDemand s { s with placed := s.placed.set i [] } := rfl
  exact h.trans (only_overChannels OnlyDemand.refl OnlyDemand.trans
    (fun _ _ => only_removeEntry _ _ _) _ _)

theorem only_endHold (s : State) (f : Feed) (c : HoldCause) (o : Option Client) :
    OnlyDemand s (s.endHold f c o) := by
  unfold State.endHold; split
  · rfl
  · exact ((only_setUnit _ _ _).toDemand.trans (only_offerEvent _ _).toDemand).trans
      (only_examine _ _).toDemand

theorem only_loseHold (s : State) (cl : Client) (f : Feed) : OnlyDemand s (s.loseHold cl f) := by
  unfold State.loseHold; split
  · split
    · exact only_endHold _ _ _ _
    · rfl
  · rfl

theorem only_silenceEntry (s : State) (cl : Client) (ch : Ch) : OnlyDemand s (s.silenceEntry cl ch) := by
  unfold State.silenceEntry; split
  · rfl
  · exact only_removeEntry _ _ _
  · rfl
  · exact only_endEntry _ _ _ _

theorem only_expireSilence (s : State) (cl : Client) : OnlyBlocks s (s.expireSilence cl) := by
  unfold State.expireSilence; dsimp only
  refine OnlyBlocks.trans ?_ (only_offerEvent _ _).toBlocks
  refine OnlyBlocks.trans ?_ (only_loseHold _ _ _).toBlocks
  refine OnlyBlocks.trans ?_ (only_loseHold _ _ _).toBlocks
  exact (only_setClient _ _ _).trans (only_overChannels OnlyBlocks.refl OnlyBlocks.trans
    (fun _ _ => (only_silenceEntry _ _ _).toBlocks) _ _)

theorem only_refresh (s : State) (cl : Client) (p : Port) : OnlyBlocks s (s.refresh cl p) := by
  unfold State.refresh; dsimp only; split
  · exact (only_setClient _ _ _).trans (only_offerEvent _ _).toBlocks
  · rfl

theorem only_countSlot (g : Group) (ch : Ch) (cl : Client) (s : State) :
    OnlyDemand s (State.countSlot g ch cl s) := by
  unfold State.countSlot; split
  · rfl
  · split
    · dsimp only; split
      · exact (only_setSlot _ _ _ _).trans (only_offerEvent _ _).toDemand
      · rfl
    · rfl

theorem only_endOnPhase (s : State) (g : Group) : OnlyDemand s (s.endOnPhase g) := by
  unfold State.endOnPhase; dsimp only
  refine OnlyDemand.trans ?_ (only_overChannels OnlyDemand.refl OnlyDemand.trans
    (fun _ _ => (only_recomputed _ _).toDemand) _ _)
  exact (only_setGroup _ _ _).trans
    (only_overSlots OnlyDemand.refl OnlyDemand.trans (fun _ _ _ => only_countSlot _ _ _ _) _ _)

theorem only_endOffPhase (s : State) (g : Group) : OnlyDemand s (s.endOffPhase g) := by
  unfold State.endOffPhase; split
  · rfl
  · dsimp only
    refine OnlyDemand.trans ?_ (only_overChannels OnlyDemand.refl OnlyDemand.trans
      (fun _ _ => (only_recomputed _ _).toDemand) _ _)
    exact ((only_setGroup _ _ _).trans (only_startCycle _ _)).trans
      (only_overSlots OnlyDemand.refl OnlyDemand.trans (fun _ _ _ => only_startSlot _ _ _ _) _ _)

/-! ### Protection and feeds -/

theorem only_trip (s : State) (ch : Ch) (c : TripCause) (rms : Nat) (o : Option Nat) :
    OnlyDemand s (s.trip ch c rms o) := by
  unfold State.trip; dsimp only
  refine OnlyDemand.trans ?_ (only_examine _ _).toDemand
  have h : ∀ u : State, OnlyDemand s u → OnlyDemand s (match bridgeOf ch with
      | some br => u.dropDrive true br .tripped
      | none => u) := by
    intro u hu; split
    · exact hu.trans (only_dropDrive _ _ _ _)
    · exact hu
  apply h
  split
  · exact (((only_releaseClaims _ _).trans (only_setChan _ _ _)).toDemand.trans
      (only_offerEvent _ _).toDemand).trans (only_offerEvent _ _).toDemand
  · exact ((only_releaseClaims _ _).trans (only_setChan _ _ _)).toDemand.trans
      (only_offerEvent _ _).toDemand

theorem only_openCheck (s : State) (ch : Ch) (o : Option Nat) : OnlyDemand s (s.openCheck ch o) := by
  unfold State.openCheck; dsimp only; split
  · rfl
  · split
    · exact (only_setChan _ _ _).toDemand.trans (only_offerEvent _ _).toDemand
    · split
      · exact (only_setChan _ _ _).toDemand.trans (only_offerEvent _ _).toDemand
      · rfl

theorem only_coolCheck (s : State) (ch : Ch) : OnlyDemand s (s.coolCheck ch) := by
  unfold State.coolCheck; dsimp only; split
  · split
    · exact (only_offerEvent _ _).toDemand.trans (only_start _ _).toDemand
    · rfl
  · rfl

theorem only_keepSample (s : State) (ch : Ch) (rms : Nat) (o : Option Nat) :
    OnlyAdmission s (s.keepSample ch rms o) := by
  unfold State.keepSample; dsimp only; split
  · exact (only_setChan _ _ _).trans (only_storeDriveCurrent _ _ _)
  · rfl

theorem only_checkSample (s : State) (ch : Ch) (rms : Nat) (o : Option Nat) :
    OnlyDemand s (s.checkSample ch rms o) := by
  unfold State.checkSample; dsimp only; split
  · split
    · exact only_trip _ _ _ _ _
    · split
      · exact (only_openCheck _ _ _).trans (only_stallCheck _ _ _)
      · exact only_openCheck _ _ _
  · split
    · exact only_coolCheck _ _
    · rfl

theorem only_senseSample (s : State) (ch : Ch) (rms : Nat) (o : Option Nat) :
    OnlyDemand s (s.senseSample ch rms o) :=
  (only_keepSample _ _ _ _).toDemand.trans (only_checkSample _ _ _ _)

theorem only_suspend (s : State) (ch : Ch) : OnlyDemand s (s.suspend ch) := by
  unfold State.suspend; split
  · exact only_dropDrive _ _ _ _
  · exact (only_leaveTo _ _ _).toDemand

theorem only_shedChannel (s : State) (f : Feed) (c : ShedCause) (ch : Ch) :
    OnlyBlocks s (s.shedChannel f c ch) := by
  unfold State.shedChannel; dsimp only
  refine OnlyBlocks.trans ?_ (only_examine _ _).toBlocks
  have h : OnlyBlocks s ((s.zeroRestore f).offerEvent
      (.shed ch f c (s.chan ch).profile.cls (s.placeOf f ch) (s.monitor f).vavg
        (s.monitor f).current)) :=
    OnlyBlocks.trans (t := s.zeroRestore f) (only_setMonitor _ _ _) (only_offerEvent _ _).toBlocks
  split
  · exact h.trans (only_dropDrive _ _ _ _).toBlocks
  · exact h.trans (only_leaveTo _ _ _).toBlocks

theorem only_shedOne (s : State) (f : Feed) (c : ShedCause) : OnlyBlocks s (s.shedOne f c) := by
  unfold State.shedOne; split
  · exact only_shedChannel _ _ _ _
  · rfl

theorem only_resume (s : State) (f : Feed) : OnlyAdmission s (s.resume f) :=
  (only_overChannels OnlyAdmission.refl OnlyAdmission.trans (fun _ _ => only_admit _ _) _ _).trans
    (only_placeBatch _ _ _)

theorem only_actOnChange (s : State) (f : Feed) (n : FeedState) : OnlyBlocks s (s.actOnChange f n) := by
  unfold State.actOnChange; split
  · exact only_overChannels OnlyBlocks.refl OnlyBlocks.trans (fun _ _ => (only_suspend _ _).toBlocks) _ _
  · exact only_overChannels OnlyBlocks.refl OnlyBlocks.trans (fun _ _ => (only_suspend _ _).toBlocks) _ _
  · exact only_shedOne _ _ _
  · exact (only_resume _ _).toBlocks

theorem only_changeFeed (s : State) (f : Feed) (n : FeedState) : OnlyBlocks s (s.changeFeed f n) := by
  unfold State.changeFeed; dsimp only
  exact (((only_setMonitor _ _ _).trans (only_offerEvent _ _).toBlocks).trans
    (only_actOnChange _ _ _)).trans (only_examine _ _).toBlocks

theorem only_overloadCheck (s : State) (f : Feed) : OnlyBlocks s (s.overloadCheck f) := by
  unfold State.overloadCheck; split
  · exact (only_shedOne _ _ _).trans (only_setMonitor _ _ _)
  · rfl

theorem only_restoreShed (s : State) (f : Feed) : OnlyBlocks s (s.restoreShed f) := by
  unfold State.restoreShed; dsimp only; split
  · rfl
  · exact ((only_placeBatch _ _ _).toBlocks.trans (only_offerEvent _ _).toBlocks).trans
      (only_setMonitor _ _ _)

theorem only_advanceRestore (s : State) (f : Feed) : OnlyBlocks s (s.advanceRestore f) := by
  unfold State.advanceRestore; dsimp only; split
  · rfl
  · split
    · rfl
    · split
      · rfl
      · split
        · exact only_restoreShed _ _
        · rfl

theorem only_feedSample (s : State) (f : Feed) (v i : Nat) : OnlyBlocks s (s.feedSample f v i) := by
  unfold State.feedSample; dsimp only
  have h : OnlyBlocks s (s.takeFeedSample f v i) := rfl
  split
  · exact h.trans (only_changeFeed _ _ _)
  · exact (h.trans (only_overloadCheck _ _)).trans (only_advanceRestore _ _)

/-! ### What the relations leave alone, field by field -/

theorem OnlyBlocks.pending {s t : State} (h : OnlyBlocks s t) : t.pending = s.pending := by
  unfold OnlyBlocks at h; rw [h]
theorem OnlyBlocks.powered {s t : State} (h : OnlyBlocks s t) : t.powered = s.powered := by
  unfold OnlyBlocks at h; rw [h]
theorem OnlyBlocks.zone {s t : State} (h : OnlyBlocks s t) : t.zone = s.zone := by
  unfold OnlyBlocks at h; rw [h]
theorem OnlyBlocks.part {s t : State} (h : OnlyBlocks s t) : t.part = s.part := by
  unfold OnlyBlocks at h; rw [h]
theorem OnlyBlocks.quiet {s t : State} (h : OnlyBlocks s t) : t.quiet = s.quiet := by
  unfold OnlyBlocks at h; rw [h]
theorem OnlyBlocks.restCh {s t : State} (h : OnlyBlocks s t) : t.restCh = s.restCh := by
  unfold OnlyBlocks at h; rw [h]
theorem OnlyBlocks.restIn {s t : State} (h : OnlyBlocks s t) : t.restIn = s.restIn := by
  unfold OnlyBlocks at h; rw [h]
theorem OnlyBlocks.pins {s t : State} (h : OnlyBlocks s t) : t.pins = s.pins := by
  unfold OnlyBlocks at h; rw [h]
theorem OnlyBlocks.freeIndex {s t : State} (h : OnlyBlocks s t) : t.freeIndex = s.freeIndex := by
  unfold OnlyBlocks at h; rw [h]
theorem OnlyDemand.clients {s t : State} (h : OnlyDemand s t) : t.clients = s.clients := by
  unfold OnlyDemand at h; rw [h]
theorem OnlyDemand.mon {s t : State} (h : OnlyDemand s t) : t.mon = s.mon := by
  unfold OnlyDemand at h; rw [h]
theorem OnlyAdmission.demand {s t : State} (h : OnlyAdmission s t) : t.demand = s.demand := by
  unfold OnlyAdmission at h; rw [h]
theorem OnlyAdmission.groups {s t : State} (h : OnlyAdmission s t) : t.groups = s.groups := by
  unfold OnlyAdmission at h; rw [h]
theorem OnlyAdmission.placed {s t : State} (h : OnlyAdmission s t) : t.placed = s.placed := by
  unfold OnlyAdmission at h; rw [h]
theorem OnlyAdmission.ports {s t : State} (h : OnlyAdmission s t) : t.ports = s.ports := by
  unfold OnlyAdmission at h; rw [h]
theorem OnlyPorts.chans {s t : State} (h : OnlyPorts s t) : t.chans = s.chans := by
  unfold OnlyPorts at h; rw [h]
theorem OnlyPorts.adm {s t : State} (h : OnlyPorts s t) : t.adm = s.adm := by
  unfold OnlyPorts at h; rw [h]
theorem OnlyPorts.bridges {s t : State} (h : OnlyPorts s t) : t.bridges = s.bridges := by
  unfold OnlyPorts at h; rw [h]
theorem OnlyPorts.demand {s t : State} (h : OnlyPorts s t) : t.demand = s.demand := by
  unfold OnlyPorts at h; rw [h]

end Sys2Proof.Machine
end

