-- ==== Sys2Proof/Laws/Steps.lean ====
section
/-!
SUPPORT. How a command is taken, once for all commands: what `State.run` gives for a request that is
taken, for an expiry that is due and for one that is not; and the small facts about timers, lists of
names and like records that every proof about a command uses.
-/
namespace Sys2Proof.Machine

/-! ### Names -/

theorem mem_allChannels (ch : Ch) : ch ∈ allChannels := by revert ch; decide

theorem mem_allClients (cl : Client) : cl ∈ Client.all := by cases cl <;> decide

theorem mem_allSlots (ch : Ch) (cl : Client) : (ch, cl) ∈ allSlots := by
  unfold allSlots; simp [mem_allChannels, mem_allClients]

theorem forall_side {P : Side → Prop} : (∀ x, P x) ↔ P .a ∧ P .b :=
  ⟨fun h => ⟨h _, h _⟩, fun h x => by cases x <;> simp_all⟩

theorem exists_side {P : Side → Prop} : (∃ x, P x) ↔ P .a ∨ P .b := by
  constructor
  · rintro ⟨x, h⟩; cases x <;> simp_all
  · rintro (h | h) <;> exact ⟨_, h⟩

theorem forall_client {P : Client → Prop} :
    (∀ x, P x) ↔ P .wired ∧ P .body ∧ P .engine ∧ P .climate ∧ P .service :=
  ⟨fun h => ⟨h _, h _, h _, h _, h _⟩, fun h x => by cases x <;> simp_all⟩

theorem forall_pin {P : Pin → Prop} : (∀ x, P x) ↔ P .brake ∧ P .hazard ∧ P .reverse ∧ P .key :=
  ⟨fun h => ⟨h _, h _, h _, h _⟩, fun h x => by cases x <;> simp_all⟩

theorem exists_pin {P : Pin → Prop} : (∃ x, P x) ↔ P .brake ∨ P .hazard ∨ P .reverse ∨ P .key := by
  constructor
  · rintro ⟨x, h⟩; cases x <;> simp_all
  · rintro (h | h | h | h) <;> exact ⟨_, h⟩

/-! ### Like records -/

theorem Pair.get_map {α : Type} (f : α → α) (p : Pair α) (x : Side) :
    (p.map f).get x = f (p.get x) := by cases x <;> rfl

theorem PerClient.get_map {α : Type} (f : α → α) (p : PerClient α) (x : Client) :
    (p.map f).get x = f (p.get x) := by cases x <;> rfl

/-! ### Timers -/

theorem countUp_eq_map (limit : Nat) (o : Option Nat) :
    countUp limit o = o.map fun n => min limit (n + 1) := by cases o <;> rfl

theorem countDown_eq_map (o : Option Nat) : countDown o = o.map fun n => n - 1 := by cases o <;> rfl

theorem reached_iff (limit : Nat) (o : Option Nat) :
    reached limit o = true ↔ ∃ n, o = some n ∧ limit ≤ n := by cases o <;> simp [reached]

theorem ranOut_iff (o : Option Nat) : ranOut o = true ↔ o = some 0 := by
  cases o with
  | none => simp [ranOut]
  | some n => cases n <;> simp [ranOut]

theorem mem_ifDue (due : Bool) (c d : Instr) : d ∈ ifDue due c ↔ due = true ∧ d = c := by
  unfold ifDue; cases due <;> simp

/-! ### The end of a command -/

theorem settle_pending (s t : State) : (State.settle s t).pending = t.pending := by
  unfold State.settle; dsimp only; split <;> rfl

theorem settle_powered (s t : State) : (State.settle s t).powered = t.powered := by
  unfold State.settle; dsimp only; split <;> rfl

theorem settle_zone (s t : State) : (State.settle s t).zone = t.zone := by
  unfold State.settle; dsimp only; split <;> rfl

theorem settle_chans (s t : State) : (State.settle s t).chans = t.chans := by
  unfold State.settle; dsimp only; split <;> rfl

theorem settle_demand (s t : State) : (State.settle s t).demand = t.demand := by
  unfold State.settle; dsimp only; split <;> rfl

theorem settle_pins (s t : State) : (State.settle s t).pins = t.pins := by
  unfold State.settle; dsimp only; split <;> rfl

theorem settle_placed (s t : State) : (State.settle s t).placed = t.placed := by
  unfold State.settle; dsimp only; split <;> rfl

theorem settle_groups (s t : State) : (State.settle s t).groups = t.groups := by
  unfold State.settle; dsimp only; split <;> rfl

theorem settle_bridges (s t : State) : (State.settle s t).bridges = t.bridges := by
  unfold State.settle; dsimp only; split <;> rfl

theorem settle_freeIndex (s t : State) : (State.settle s t).freeIndex = t.freeIndex := by
  unfold State.settle; dsimp only; split <;> rfl

/-- The rest conditions held at the end of a command are the blocks' (R161). -/
theorem settle_restHanded (s t : State) : (State.settle s t).RestHanded := by
  have h : t.handRest.RestHanded := ⟨rfl, rfl⟩
  unfold State.settle; dsimp only; split
  · exact h
  · exact h

/-! ### How a command is taken -/

theorem run_off (s : State) (f : State → State) (h : s.powered = false) : s.run f = s := by
  unfold State.run; rw [h]; rfl

theorem run_on (s : State) (f : State → State) (h : s.powered = true) :
    s.run f = State.settle s (f s) := by unfold State.run; rw [h]; rfl

/-- What the run of a command keeps of the queue is what its effect keeps. -/
theorem run_pending (s : State) (f : State → State) (h : (f s).pending = s.pending) :
    (s.run f).pending = s.pending := by
  unfold State.run; split
  · rw [settle_pending, h]
  · rfl

/-- A command that acts in ACTIVE alone, on a running part. -/
theorem run_active (s : State) (f : State → State) (h : s.Running) :
    s.run (whenActive f) = State.settle s (f s) := by
  rw [run_on _ _ h.1, whenActive, if_pos h.2]

/-- An expiry that is due, on a running part. -/
theorem run_due (s : State) (due : State → Bool) (f : State → State) (h : s.Running)
    (hd : due s = true) : s.run (whenActive (whenDue due f)) = State.settle s (f s) := by
  rw [run_active _ _ h, whenDue, if_pos hd]

/-- An expiry that is not due changes nothing but the rest conditions. -/
theorem run_notDue (s : State) (due : State → Bool) (f : State → State) (h : s.Running)
    (hd : due s = false) : s.run (whenActive (whenDue due f)) = State.settle s s := by
  rw [run_active _ _ h, whenDue, if_neg (by simp [hd])]

/-- An event that acts in ACTIVE and in SLEEP, when it is due. -/
theorem run_event (s : State) (due : State → Bool) (f : State → State) (h : s.powered = true)
    (hd : due s = true) : s.run (whenDue due f) = State.settle s (f s) := by
  rw [run_on _ _ h, whenDue, if_pos hd]

theorem awake_of_active (s : State) (h : s.part = .active) : s.awake = s := by
  unfold State.awake; rw [h]

theorem takesOn_wired (p : Port) : takesOn .wired p = false := by cases p <;> rfl

/-- A request that is taken on a running part is judged on the refreshed state (R27, R142, R143). -/
theorem takeFrame_of_takes (s : State) (src : Source) (f : State → State) (h : s.Takes src) :
    s.takeFrame src f = f (s.heard src) := by
  obtain ⟨⟨_, hp⟩, hport, ht⟩ := h
  have hw : src.client ≠ .wired := by intro e; rw [e, takesOn_wired] at ht; exact absurd ht (by decide)
  unfold State.takeFrame
  rw [hport]
  dsimp only
  rw [if_neg hw, awake_of_active s hp, ht]
  rfl

/-- What every request command answers when it is taken: the accepted effect, or the refusal with its
REPLY. The meanings of the request commands are instances by `rfl`. -/
theorem run_request (s : State) (src : Source) (kind byte1 : Byte) (judgement : State → Verdict)
    (h : s.Takes src) :
    s.run (State.request src kind byte1 judgement) = match judgement (s.heard src) with
      | .accept t => State.settle s t.noteAccepted
      | .refuse code => s.refusedWith src kind byte1 code := by
  rw [run_on _ _ h.1.1, State.request, takeFrame_of_takes s src _ h, State.judge]
  cases judgement (s.heard src) <;> rfl

/-- A request whose judgement accepts an effect of the refreshed state. -/
theorem run_request_accept (s : State) (src : Source) (kind byte1 : Byte)
    (judgement : State → Verdict) (effect : State → State) (h : s.Takes src)
    (hj : judgement (s.heard src) = .accept (effect (s.heard src))) :
    s.run (State.request src kind byte1 judgement) = s.accepted src effect := by
  rw [run_request s src kind byte1 judgement h, hj]; rfl

/-- A request whose judgement refuses. -/
theorem run_request_refuse (s : State) (src : Source) (kind byte1 : Byte)
    (judgement : State → Verdict) (code : RefusalCode) (h : s.Takes src)
    (hj : judgement (s.heard src) = .refuse code) :
    s.run (State.request src kind byte1 judgement) = s.refusedWith src kind byte1 code := by
  rw [run_request s src kind byte1 judgement h, hj]

/-- The refresh of a sender touches its record and the ports alone. -/
theorem heard_chan (s : State) (src : Source) (ch : Ch) : (s.heard src).chan ch = s.chan ch := by
  unfold State.heard State.refresh; dsimp only; split <;> rfl

theorem heard_slot (s : State) (src : Source) (ch : Ch) (cl : Client) :
    (s.heard src).slot ch cl = s.slot ch cl := by
  unfold State.heard State.refresh; dsimp only; split <;> rfl

theorem heard_unit (s : State) (src : Source) (f : Feed) : (s.heard src).unit f = s.unit f := by
  unfold State.heard State.refresh; dsimp only; split <;> rfl

theorem heard_monitor (s : State) (src : Source) (f : Feed) :
    (s.heard src).monitor f = s.monitor f := by
  unfold State.heard State.refresh; dsimp only; split <;> rfl

theorem heard_group (s : State) (src : Source) (g : Group) : (s.heard src).group g = s.group g := by
  unfold State.heard State.refresh; dsimp only; split <;> rfl

theorem heard_bridge (s : State) (src : Source) (br : Bridge) :
    (s.heard src).bridge br = s.bridge br := by
  unfold State.heard State.refresh; dsimp only; split <;> rfl

end Sys2Proof.Machine
end

