-- ==== Sys2Proof/Laws/Channels.lean ====
section
/-!
SUPPORT. What the operations of admission, of wishes and of the hand-over do to the channel records.
`Learned s t` says that every channel keeps what it has learned and been configured with (SameLearned);
`Handed s t` adds its wish, its pending duty and its inhibited value. Every operation of Admission.lean
has one lemma here; a hand-over also says what the channel holds afterwards (`recompute_handed`). Last come a
tick's and a sample's own small facts: the period timer, and what a sample delivers.
-/
namespace Sys2Proof.Machine

/-! ### One channel -/

/-- A channel keeps what it learned and what was handed to it. -/
def Channel.SameHanded (c d : Channel) : Prop :=
  c.SameLearned d ∧ d.wish = c.wish ∧ d.pending = c.pending ∧ d.inhibited = c.inhibited

theorem Channel.SameLearned.refl (c : Channel) : c.SameLearned c := by
  unfold Channel.SameLearned; simp

theorem Channel.SameLearned.trans {c d e : Channel} (h : c.SameLearned d) (k : d.SameLearned e) :
    c.SameLearned e := by
  unfold Channel.SameLearned at *; simp_all

theorem Channel.SameHanded.refl (c : Channel) : c.SameHanded c := ⟨.refl c, rfl, rfl, rfl⟩

theorem Channel.SameHanded.trans {c d e : Channel} (h : c.SameHanded d) (k : d.SameHanded e) :
    c.SameHanded e :=
  ⟨h.1.trans k.1, k.2.1.trans h.2.1, k.2.2.1.trans h.2.2.1, k.2.2.2.trans h.2.2.2⟩

theorem Channel.enterRamping_handed (t : ChannelType) (vavg n : Nat) (c : Channel) :
    c.SameHanded (c.enterRamping t vavg n) := by
  unfold Channel.enterRamping; dsimp only; split <;> exact ⟨.refl c, rfl, rfl, rfl⟩

theorem Channel.leaveAdmitted_handed (c : Channel) (dest : ChState) :
    c.SameHanded (c.leaveAdmitted dest) := ⟨.refl c, rfl, rfl, rfl⟩

theorem Channel.record_learned (t : ChannelType) (d : Combined) (c : Channel) :
    c.SameLearned (c.record t d) := .refl c

/-! ### All channels -/

/-- Every channel keeps what it learned. -/
def Learned (s t : State) : Prop := ∀ ch : Ch, (s.chan ch).SameLearned (t.chan ch)

/-- Every channel keeps what it learned and what was handed to it. -/
def Handed (s t : State) : Prop := ∀ ch : Ch, (s.chan ch).SameHanded (t.chan ch)

theorem Learned.refl (s : State) : Learned s s := fun _ => .refl _
theorem Handed.refl (s : State) : Handed s s := fun _ => .refl _

theorem Learned.trans {s t u : State} (h : Learned s t) (k : Learned t u) : Learned s u :=
  fun ch => (h ch).trans (k ch)

theorem Handed.trans {s t u : State} (h : Handed s t) (k : Handed t u) : Handed s u :=
  fun ch => (h ch).trans (k ch)

theorem Handed.learned {s t : State} (h : Handed s t) : Learned s t := fun ch => (h ch).1

theorem Handed.sameWish {s t : State} (h : Handed s t) (ch : Ch) : s.SameWish t ch :=
  ⟨(h ch).2.2.1, (h ch).2.1, (h ch).2.2.2⟩

theorem SameWish.trans {s t u : State} {ch : Ch} (h : s.SameWish t ch) (k : t.SameWish u ch) :
    s.SameWish u ch := ⟨k.1.trans h.1, k.2.1.trans h.2.1, k.2.2.trans h.2.2⟩

/-- An operation that leaves the channel records alone. -/
theorem handed_of_chans {s t : State} (h : t.chans = s.chans) : Handed s t := by
  intro ch
  have e : t.chan ch = s.chan ch := by unfold State.chan; rw [h]
  rw [e]; exact .refl _

theorem handed_setChan (s : State) (ch : Ch) (c : Channel) (h : (s.chan ch).SameHanded c) :
    Handed s (s.setChan ch c) := by
  intro x
  by_cases e : x = ch
  · subst e; rw [State.chan_setChan_same]; exact h
  · rw [State.chan_setChan, if_neg e]; exact .refl _

theorem learned_setChan (s : State) (ch : Ch) (c : Channel) (h : (s.chan ch).SameLearned c) :
    Learned s (s.setChan ch c) := by
  intro x
  by_cases e : x = ch
  · subst e; rw [State.chan_setChan_same]; exact h
  · rw [State.chan_setChan, if_neg e]; exact .refl _

theorem handed_overChannels (f : Ch → State → State) (h : ∀ ch s, Handed s (f ch s)) (l : List Ch)
    (s : State) : Handed s (s.overChannels f l) := by
  unfold State.overChannels
  induction l generalizing s with
  | nil => exact .refl s
  | cons ch l ih => exact (h ch s).trans (ih _)

/-! ### Admission -/

theorem handed_enterRamping (s : State) (ch : Ch) (n : Nat) : Handed s (s.enterRamping ch n) := by
  have h := handed_setChan s ch _
    (Channel.enterRamping_handed (typeOf ch) (s.monitor (feedOf ch)).vavg n (s.chan ch))
  unfold State.enterRamping; dsimp only
  split
  · exact h.trans (handed_of_chans rfl)
  · exact h

theorem handed_renumber (s : State) (f : Feed) : Handed s (s.renumber f) := by
  unfold State.renumber; dsimp only
  refine Handed.trans (handed_overChannels _ ?_ _ s) (handed_of_chans rfl)
  intro ch t
  exact handed_setChan t ch _ ⟨.refl _, rfl, rfl, rfl⟩

theorem handed_countAdmission (s : State) (f : Feed) : Handed s (s.countAdmission f) := by
  unfold State.countAdmission; dsimp only
  split
  · exact handed_of_chans rfl
  · exact (handed_renumber s f).trans (handed_of_chans rfl)

theorem handed_admitChannel (s : State) (ch : Ch) : Handed s (s.admitChannel ch) := by
  unfold State.admitChannel; dsimp only
  exact Handed.trans (handed_of_chans (t := s.addClaims ch) rfl)
    ((handed_countAdmission _ _).trans (handed_enterRamping _ _ _))

theorem handed_place (s : State) (ch : Ch) : Handed s (s.place ch) := by
  unfold State.place; dsimp only
  exact Handed.trans
    (handed_setChan s ch { s.chan ch with st := .waiting } ⟨.refl _, rfl, rfl, rfl⟩)
    (handed_of_chans rfl)

theorem handed_setUnit (s : State) (f : Feed) (u : Admission) : Handed s (s.setUnit f u) :=
  handed_of_chans rfl

theorem handed_examineHeads (f : Feed) :
    ∀ (n : Nat) (s : State), Handed s (State.examineHeads f n s)
  | 0, s => .refl s
  | n + 1, s => by
    unfold State.examineHeads
    split
    · exact .refl s
    · split
      · exact Handed.trans (handed_setUnit s f _)
          ((handed_admitChannel _ _).trans (handed_examineHeads f n _))
      · exact .refl s

theorem handed_examine (s : State) (f : Feed) : Handed s (s.examine f) := handed_examineHeads f _ s

theorem handed_leaveTo (s : State) (ch : Ch) (dest : ChState) : Handed s (s.leaveTo ch dest) := by
  unfold State.leaveTo; dsimp only
  split
  · exact Handed.trans (handed_of_chans (t := s.dequeue ch) rfl)
      (handed_setChan _ ch _ ⟨.refl _, rfl, rfl, rfl⟩)
  · exact Handed.trans (handed_of_chans (t := s.releaseClaims ch) rfl)
      (handed_setChan _ ch _ (Channel.leaveAdmitted_handed _ _))
  · exact Handed.trans (handed_of_chans (t := s.releaseClaims ch) rfl)
      (handed_setChan _ ch _ (Channel.leaveAdmitted_handed _ _))
  · exact handed_setChan s ch _ ⟨.refl _, rfl, rfl, rfl⟩

theorem handed_start (s : State) (ch : Ch) : Handed s (s.start ch) := by
  unfold State.start
  split
  · exact handed_admitChannel s ch
  · exact (handed_place s ch).trans (handed_examine _ _)
  · exact handed_setChan s ch _ ⟨.refl _, rfl, rfl, rfl⟩

theorem handed_wishBegins (s : State) (ch : Ch) : Handed s (s.wishBegins ch) := by
  unfold State.wishBegins; split
  · exact handed_start s ch
  · exact .refl s

theorem handed_wishEnds (s : State) (examined : Bool) (ch : Ch) :
    Handed s (s.wishEnds examined ch) := by
  unfold State.wishEnds
  split
  · exact .refl s
  · exact .refl s
  · exact .refl s
  · dsimp only
    split
    · exact (handed_leaveTo s ch .off).trans (handed_examine _ _)
    · exact handed_leaveTo s ch .off

theorem handed_placeBatch (s : State) (f : Feed) (batch : List Ch) :
    Handed s (s.placeBatch f batch) := by
  unfold State.placeBatch; dsimp only
  exact (handed_overChannels _ (fun ch t => handed_place t ch) _ s).trans (handed_examine _ _)

/-! ### The hand-over (R43) -/

/-- A hand-over touches no channel's learned values and no other channel's wish. -/
theorem recompute_learned (s : State) (examined : Bool) (ch : Ch) :
    Learned s (s.recompute examined ch) := by
  unfold State.recompute; dsimp only
  have h := learned_setChan s ch _ (Channel.record_learned (typeOf ch) (s.combined ch) (s.chan ch))
  split
  · exact .refl s
  · split
    · exact h
    · split
      · exact h.trans (handed_wishBegins _ ch).learned
      · exact h.trans (handed_wishEnds _ examined ch).learned

theorem recompute_sameWish (s : State) (examined : Bool) (ch x : Ch) (hx : x ≠ ch) :
    s.SameWish (s.recompute examined ch) x := by
  have h : s.SameWish (s.setChan ch ((s.chan ch).record (typeOf ch) (s.combined ch))) x := by
    unfold State.SameWish; rw [State.chan_setChan, if_neg hx]; simp
  unfold State.recompute; dsimp only
  split
  · exact ⟨rfl, rfl, rfl⟩
  · split
    · exact h
    · split
      · exact SameWish.trans h ((handed_wishBegins _ ch).sameWish x)
      · exact SameWish.trans h ((handed_wishEnds _ examined ch).sameWish x)

/-- The combined demand depends on the entries and on the phases of the groups alone. -/
theorem combined_congr {s t : State} (hd : t.demand = s.demand) (hg : t.groups = s.groups) (ch : Ch) :
    t.combined ch = s.combined ch := by
  unfold State.combined State.entries State.slot; rw [hd, hg]

/-- After a hand-over the channel holds the values of its entries. -/
theorem recompute_handedOver (s : State) (examined : Bool) (ch : Ch) :
    (s.recompute examined ch).HandedOver ch := by
  have hc : (s.recompute examined ch).combined ch = s.combined ch :=
    combined_congr (only_recompute s examined ch).demand (only_recompute s examined ch).groups ch
  unfold State.HandedOver
  rw [hc]
  have h : ∀ t : State,
      Handed (s.setChan ch ((s.chan ch).record (typeOf ch) (s.combined ch))) t →
      (t.chan ch).pending = (s.combined ch).duty ∧ (t.chan ch).wish = (s.combined ch).wants ∧
        (t.chan ch).inhibited = (s.combined ch).inhibited := by
    intro t k
    have e := k ch
    rw [State.chan_setChan_same] at e
    exact ⟨e.2.2.1, e.2.1, e.2.2.2⟩
  unfold State.recompute; dsimp only
  split
  · rename_i e; exact ⟨e.1.symm, e.2.1.symm, e.2.2.symm⟩
  · split
    · exact h _ (.refl _)
    · split
      · exact h _ (handed_wishBegins _ ch)
      · exact h _ (handed_wishEnds _ examined ch)

/-- After the removal of an entry the slot is empty, no other slot has changed, and the channel holds the
values of its entries. -/
theorem removeEntry_slot (s : State) (ch : Ch) (cl : Client) (x : Ch) (y : Client) :
    (s.removeEntry ch cl).slot x y = if x = ch ∧ y = cl then none else s.slot x y := by
  unfold State.removeEntry
  split
  · rename_i h
    split
    · rename_i e; rw [e.1, e.2, h]
    · rfl
  · have e : ((s.setSlot ch cl none).recomputed ch).slot x y = (s.setSlot ch cl none).slot x y := by
      unfold State.slot; rw [(only_recomputed _ _).demand]
    rw [e]
    by_cases hx : x = ch ∧ y = cl
    · rw [if_pos hx, hx.1, hx.2, State.slot_setSlot_same]
    · rw [if_neg hx, State.slot_setSlot, if_neg hx]

/-! ### The queue (R54) -/

theorem mem_insertBehind (e x : QueueEntry) (q : List QueueEntry) :
    x ∈ insertBehind e q ↔ x = e ∨ x ∈ q := by
  induction q with
  | nil => simp [insertBehind]
  | cons y ys ih =>
    unfold insertBehind
    split
    · simp only [List.mem_cons, ih]; tauto
    · simp only [List.mem_cons]

theorem insertBehind_perm (e : QueueEntry) (q : List QueueEntry) :
    (insertBehind e q).Perm (e :: q) := by
  induction q with
  | nil => exact .refl _
  | cons y ys ih =>
    unfold insertBehind
    split
    · exact (ih.cons y).trans (.swap e y ys)
    · exact .refl _

/-- A queue in the order of class stays in it. -/
theorem insertBehind_sorted (e : QueueEntry) (q : List QueueEntry)
    (h : q.Pairwise fun x y => x.cls ≤ y.cls) :
    (insertBehind e q).Pairwise fun x y => x.cls ≤ y.cls := by
  induction q with
  | nil => simp [insertBehind]
  | cons y ys ih =>
    rw [List.pairwise_cons] at h
    unfold insertBehind
    split
    · rename_i hany
      rw [List.pairwise_cons]
      refine ⟨?_, ih h.2⟩
      intro z hz
      rcases (mem_insertBehind e z ys).1 hz with rfl | hz
      · rw [List.any_eq_true] at hany
        obtain ⟨w, hw, hle⟩ := hany
        have hle : w.cls ≤ z.cls := by simpa using hle
        rcases List.mem_cons.1 hw with rfl | hw
        · exact hle
        · exact (h.1 w hw).trans hle
      · exact h.1 z hz
    · rename_i hany
      rw [List.pairwise_cons, List.pairwise_cons]
      refine ⟨?_, h⟩
      intro z hz
      have : ¬ z.cls ≤ e.cls := by
        intro hle
        exact hany (List.any_eq_true.2 ⟨z, hz, by simpa using hle⟩)
      omega

/-! ### Periods -/

/-- A tick keeps the position below PERIOD (R89). -/
theorem PeriodTimer.tick_pos_lt (period : Nat) (t : PeriodTimer) (h : 0 < period) :
    (t.tick period).pos < period := Nat.mod_lt _ h

/-- A tick loses no time: the periods begun and the position make up the 1,000 µs (R89). -/
theorem PeriodTimer.tick_time (period : Nat) (t : PeriodTimer) :
    period * (t.tick period).starts + (t.tick period).pos = period * t.starts + t.pos + 1000 := by
  unfold PeriodTimer.tick; dsimp only
  rw [Nat.mul_add, Nat.add_assoc, Nat.div_add_mod]; omega

/-- A fresh period with an on-time above 0 conducts at once (R89). -/
theorem Channel.inOnPart_zero (c : Channel) (n : Nat) (h : c.admitted = true)
    (hp : c.periodTimer = some ⟨0, n⟩) : c.inOnPart = decide (0 < c.onTime) := by
  unfold Channel.inOnPart; rw [h, hp]; rfl

/-- A channel that has left RAMPING and ON does not conduct (R11, R89). -/
theorem Channel.inOnPart_leaveAdmitted (c : Channel) (dest : ChState) :
    (c.leaveAdmitted dest).inOnPart = false := by
  unfold Channel.inOnPart Channel.leaveAdmitted; dsimp only; exact Bool.and_false _

/-! ### Samples -/

/-- Without conduction in its interval a sample delivers RMS 0 and no on-current, whatever the command
carries (R69, R70). -/
theorem sample_dry (s : State) (ch : Ch) (rms : Nat) (onCur : Option Nat)
    (h : s.sampleConducted ch = false) :
    s.sampleRms ch rms onCur = 0 ∧ s.sampleOn ch onCur = none := by
  unfold State.sampleRms State.sampleOn State.sensed
  rw [h]; exact ⟨rfl, rfl⟩

/-- With conduction a sample delivers what the converter makes of the command's operands (R69, R70). -/
theorem sample_conducting (s : State) (ch : Ch) (rms : Nat) (onCur : Option Nat)
    (h : s.sampleConducted ch = true) :
    s.sampleRms ch rms onCur = deliveredRms (typeOf ch) rms onCur ∧
      s.sampleOn ch onCur = deliveredOn (typeOf ch) onCur := by
  unfold State.sampleRms State.sampleOn State.sensed
  rw [h]; exact ⟨rfl, rfl⟩

/-- What a sample's values do to the channel records: the sampled channel takes them, the others stay. -/
theorem keepSample_chan (s : State) (ch x : Ch) (rms : Nat) (onCur : Option Nat) :
    (s.keepSample ch rms onCur).chan x =
      if x = ch then (s.chan ch).takeSample rms onCur else s.chan x := by
  unfold State.keepSample; dsimp only
  cases bridgeOf ch with
  | none => exact State.chan_setChan _ _ _ _
  | some br =>
    refine Eq.trans ?_ (State.chan_setChan s ch x _)
    dsimp only [State.storeDriveCurrent]; split <;> rfl

end Sys2Proof.Machine
end

