-- ==== Sys2Proof/Tests/Slice0.lean ====
section
/-!
SUPPORT. The model's own tests: a command that the well-formedness check refuses for each of its parts, the
manual's worked figures, a few request frames written out byte by byte from section 9.9, and for every
statement with hypotheses a concrete state and operands that meet them (`witness_…`).
-/
namespace Sys2Proof.Tests

open Sys2Proof.Machine

/-! ### Ill-formed commands -/

theorem test_refuses_body_on_port_b : (Instr.present ⟨.b, .body⟩).wellFormed = false := by decide
theorem test_refuses_engine_on_port_a : (Instr.read ⟨.a, .engine⟩ 3).wellFormed = false := by decide
theorem test_refuses_wired_as_sender : (Instr.release ⟨.a, .wired⟩ 0).wellFormed = false := by decide
theorem test_refuses_wide_identifier :
    (Instr.frameIgnored .a ⟨false, false, 2048, []⟩).wellFormed = false := by decide
theorem test_refuses_wide_extended_identifier :
    (Instr.frameIgnored .a ⟨false, true, 2 ^ 29, []⟩).wellFormed = false := by decide
theorem test_refuses_nine_bytes :
    (Instr.frameIgnored .a ⟨false, false, 5, [1, 2, 3, 4, 5, 6, 7, 8, 9]⟩).wellFormed = false := by
  decide
theorem test_refuses_good_frame_as_refused :
    (Instr.frameRefusedByPort .a ⟨false, false, 0x481, [0x01]⟩).wellFormed = false := by decide
theorem test_refuses_current_past_full_scale :
    (Instr.senseSample 0 601 (some 0)).wellFormed = false := by decide
theorem test_refuses_on_current_past_full_scale :
    (Instr.openSet 8 0 (some 1001)).wellFormed = false := by decide
theorem test_refuses_current_without_conduction :
    (Instr.openClear 13 1 none).wellFormed = false := by decide
theorem test_refuses_stall_sample_past_full_scale :
    (Instr.stallEnd .b 0 (some 601)).wellFormed = false := by decide
theorem test_refuses_period_of_a_bridge : (Instr.periodStart 14).wellFormed = false := by decide
theorem test_refuses_timed_entry_on_a_bridge :
    (Instr.timedExpiry 15 .body).wellFormed = false := by decide
theorem test_refuses_flash_on_a_heater : (Instr.flashDone .a 8 .body).wellFormed = false := by decide
theorem test_refuses_silence_of_wired : (Instr.silenceExpiry .wired).wellFormed = false := by decide
theorem test_refuses_activation_without_level :
    (Instr.inputActivation .brake ⟨false, true, true, true⟩).wellFormed = false := by decide
theorem test_refuses_deactivation_with_level :
    (Instr.inputDeactivation .hazard ⟨false, true, false, false⟩).wellFormed = false := by decide
theorem test_refuses_voltage_past_range : (Instr.feedSample .a 451 0).wellFormed = false := by decide
theorem test_refuses_feed_current_past_range :
    (Instr.overloadShed .b 270 4001).wellFormed = false := by decide
theorem test_refuses_change_past_range :
    (Instr.feedStateChange .a 451 0).wellFormed = false := by decide
theorem test_refuses_restore_past_range : (Instr.restore .a 0 4001).wellFormed = false := by decide
theorem test_refuses_remote_frame_as_wake :
    (Instr.wake (.frame .a ⟨true, false, 0x481, []⟩)).wellFormed = false := by decide
theorem test_accepts_full_scale : (Instr.senseSample 12 1500 (some 1500)).wellFormed = true := by decide

/-! ### Worked figures of the manual -/

/-- R73's example: a Q of 100,000 falls to 99,987 at current 0 and TAU 13. -/
theorem test_heat_example : heatUpdate 13 0 100000 = 99987 := by decide
/-- R97: a pending duty of 300 at Vavg 285 and VT 240 is latched as 212. -/
theorem test_compensation_example : appliedDuty .lamp 240 285 300 = 212 := by decide
/-- R97: at a Vavg equal to VT nothing is reduced. -/
theorem test_compensation_boundary : appliedDuty .lamp 240 240 300 = 300 := by decide
/-- R95: a lamp's duty of 7 is raised to 40 µs and one of 993 lowered to 4,960 µs. -/
theorem test_on_time_boundaries :
    [7, 8, 992, 993].map (onTimeOf 40 5000) = [40, 40, 4960, 4960] := by decide
/-- R54: an entry of class 2 stands behind the last entry of class 2. -/
theorem test_insert_behind_equals :
    (insertBehind ⟨9, 2, none⟩ [⟨12, 1, none⟩, ⟨6, 2, none⟩, ⟨8, 3, none⟩]).map QueueEntry.ch
      = [12, 6, 9, 8] := by decide
/-- R54: at the front when every entry is of a higher class. -/
theorem test_insert_at_front :
    (insertBehind ⟨12, 1, none⟩ [⟨6, 2, none⟩, ⟨8, 3, none⟩]).map QueueEntry.ch = [12, 6, 8] := by decide
/-- R131: five samples below 10 V call for CUT before anything else. -/
theorem test_cut_comes_first :
    nextFeedState .low ⟨5, 0, 200, 0, 2, 0, 0⟩ = some .cut := by decide
/-- R129: the window drops its oldest sample at the seventeenth. -/
theorem test_window_of_sixteen :
    (pushVoltage (List.replicate 16 270) 300).length = 16 := by decide

/-! ### Request frames, byte by byte (section 9.9) -/

/-- BODY's SET_STEADY of channel 9 at duty 600 in zone 2: identifier 0x4A1, bytes 10 09 02 58. -/
theorem test_reads_set_steady :
    decodeFrame 2 .a ⟨false, false, 0x4A1, [0x10, 0x09, 0x02, 0x58]⟩
      = .setSteady ⟨.a, .body⟩ 9 600 := by decide
/-- ENGINE's DRIVE of channel 14 in REVERSE for 2.5 s in zone 0: 14 0E 01 00 FA. -/
theorem test_reads_drive :
    decodeFrame 0 .b ⟨false, false, 0x482, [0x14, 0x0E, 0x01, 0x00, 0xFA]⟩
      = .drive ⟨.b, .engine⟩ 14 1 250 := by decide
/-- SERVICE's PROFILE_D of channel 8 with PERIOD 500,000 µs and VT 0 in zone 1: 33 08 07 A1 20 00 00. -/
theorem test_reads_profile_d :
    decodeFrame 1 .b ⟨false, false, 0x494, [0x33, 0x08, 0x07, 0xA1, 0x20, 0x00, 0x00]⟩
      = .profileD ⟨.b, .service⟩ 8 500000 0 := by decide
/-- A PRESENT with a byte too many is refused by the port. -/
theorem test_reads_wrong_length :
    decodeFrame 0 .a ⟨false, false, 0x481, [0x01, 0x00]⟩
      = .frameRefusedByPort .a ⟨false, false, 0x481, [0x01, 0x00]⟩ := by decide
/-- BODY is not heard on port B. -/
theorem test_reads_wrong_port :
    decodeFrame 0 .b ⟨false, false, 0x481, [0x01]⟩
      = .frameIgnored .b ⟨false, false, 0x481, [0x01]⟩ := by decide
/-- CLEAR of channel 5 as it is written by CLIMATE in zone 3. -/
theorem test_writes_clear :
    encodeFrame 3 (.clear ⟨.a, .climate⟩ 5)
      = some (.a, ⟨false, false, 0x4B3, [0x19, 0x05]⟩) := by decide

/-! ### States for the witnesses -/

def body : Source := ⟨.a, .body⟩
def engine : Source := ⟨.b, .engine⟩
def service : Source := ⟨.a, .service⟩

/-- Both feeds NORMAL, everything else as after a power-on reset in zone 0. -/
def live : State :=
  { State.powerOn 0 with mon := ⟨{ Monitor.powerOn with st := .normal, restoreTimer := some 0 },
                             { Monitor.powerOn with st := .normal, restoreTimer := some 0 }⟩ }

/-- A channel's record changed. -/
def edit (ch : Ch) (f : Channel → Channel) (s : State) : State := s.setChan ch (f (s.chan ch))

/-- A channel ON for some time, with its claims in its feed's sums. -/
def running (ch : Ch) (s : State) : State :=
  let c := s.chan ch
  let u := s.unit (feedOf ch)
  (edit ch (fun c => { c with st := .on, wish := true, pending := 500, applied := 500, stamp := some 1
                              goodRun := some 7, onTime := 2500
                              periodTimer := c.profile.period.map fun _ => ⟨100, 0⟩ }) s).setUnit (feedOf ch)
    { u with sumS := u.sumS + c.profile.rclaim, sumR := u.sumR + c.profile.rclaim }

/-- A channel RAMPING, with its claims in its feed's sums. -/
def ramping (ch : Ch) (s : State) : State :=
  let c := s.chan ch
  let u := s.unit (feedOf ch)
  (edit ch (fun c => { c with st := .ramping, wish := true, pending := 500, applied := 500
                              stamp := some 1, window := some 0, onTime := 2500
                              periodTimer := c.profile.period.map fun _ => ⟨100, 0⟩ }) s).setUnit
    (feedOf ch) { u with sumS := u.sumS + c.profile.iclaim, sumR := u.sumR + c.profile.rclaim }

/-- A channel WAITING at the head of its feed's queue. -/
def waiting (ch : Ch) (delay : Nat) (s : State) : State :=
  let u := s.unit (feedOf ch)
  (edit ch (fun c => { c with st := .waiting, wish := true, pending := 500 }) s).setUnit (feedOf ch)
    { u with queue := [⟨ch, (s.chan ch).profile.cls, some delay⟩] }

/-- The bridge of channel 14 with BODY's drive forward for 30 ms, in a state with its timers run out. -/
def driving (st : BridgeState) (ending : Bool) (s : State) : State :=
  ((running 14 s).setSlot 14 .body (some (.drive .forward 3 ending))).setBridge .a
    { (s.bridge .a) with st := st, owner := some .body, stageTimer := some 0, driveTimer := some 0 }

/-- Everything off and cold, the quiet timer at its end. -/
def tired : State := { State.powerOn 0 with quiet := some 5000 }

/-- The sleeping part. -/
def asleep : State := tired.enterSleep

/-- A request kind's samples in the debounce of BRAKE: the next sample changes its level. -/
def nearly (level : Bool) (s : State) : State :=
  { s with pins := { s.pins with brake := ⟨!level, level, 19⟩ } }

def allOff : PinLevels := ⟨false, false, false, false⟩
def brakeOn : PinLevels := ⟨true, false, false, false⟩

theorem takes_body (s : State) (h : s.Running) (hp : (s.port .a).st = .active) : s.Takes body :=
  ⟨h, hp, rfl⟩

theorem takes_engine (s : State) (h : s.Running) (hp : (s.port .b).st = .active) : s.Takes engine :=
  ⟨h, hp, rfl⟩

theorem takes_service (s : State) (h : s.Running) (hp : (s.port .a).st = .active) : s.Takes service :=
  ⟨h, hp, rfl⟩

theorem live_runs : live.Running := ⟨rfl, rfl⟩

/-! ### Witnesses: steps, reset, sleep and wake -/

theorem witness_MillisecondsPassOnAnEmptyQueue :
    live.pending = [] ∧ live.Running ∧ asleep.pending = [] ∧ asleep.powered = true ∧
      asleep.part = .sleep ∧ State.pending { live with powered := false } = [] ∧
      step live = .next live.tick := by
  refine ⟨rfl, live_runs, rfl, rfl, rfl, rfl, rfl⟩

/-- The three clauses: a command that brings nothing to rest, one that does, and SLEEP_ENTRY itself. -/
theorem witness_SleepIsEnteredAtRest :
    (live.part = .active ∧ live.quiet ≠ some 5000) ∧
    (tired.part = .active ∧ tired.quiet = some 5000 ∧ (∀ ch, (tired.chan ch).atRest = true) ∧
      (∀ p, tired.level p = false) ∧
      (State.restIn { tired with restIn := ⟨false, false, false, true⟩ }).get .key = true) ∧
    (tired.Running ∧ tired.RestHanded ∧ tired.restIn = ⟨false, false, false, false⟩) := by
  refine ⟨⟨rfl, by decide⟩, ⟨rfl, rfl, by decide, ?_, rfl⟩, ⟨rfl, rfl⟩, ⟨by decide, rfl⟩, rfl⟩
  intro p; cases p <;> rfl

theorem witness_WakeRestartsTheBlocks :
    asleep.powered = true ∧ asleep.part = .sleep ∧ asleep.RestHanded ∧
    (asleep.port .a).st = .active ∧ 0x481 = 0x480 + Client.body.number + 0x10 * asleep.zone.val ∧
    (nearly false asleep).anyActivates brakeOn = true ∧ (nearly false asleep).RestHanded ∧
    requestBytes (.present body) = some (body, [0x01]) ∧ body.client ≠ .wired := by
  exact ⟨rfl, rfl, ⟨by decide, rfl⟩, rfl, rfl, by decide, ⟨by decide, rfl⟩, rfl, by decide⟩

/-! ### Witnesses: intake, offers, clients -/

theorem witness_PresentRefreshesItsSender :
    live.Takes body ∧ (live.client .body).st ≠ .lost ∧
    (State.client (live.setClient .body { live.client .body with st := .lost }) .body).st = .lost :=
  ⟨takes_body _ live_runs rfl, by decide, rfl⟩

/-- A remote frame; ENGINE on port A, awake and asleep; BODY's frames of length 0, of an unknown kind and
of a wrong length; a port in BUS_OFF with a request, and with a frame of a wrong length; a request in
WIRED's name. -/
theorem witness_PortsIgnoreOrRefuseFrames :
    live.powered = true ∧ (live.port .a).st = .active ∧ asleep.powered = true ∧
    (asleep.port .a).st = .active ∧ live.part = .active ∧ asleep.part = .sleep ∧
    0x482 = 0x480 + Client.engine.number + 0x10 * live.zone.val ∧
    0x481 = 0x480 + Client.body.number + 0x10 * asleep.zone.val ∧
    kindLength 0x99 = none ∧ kindLength 0x10 = some 4 ∧ [(0x10 : Byte), 1, 2].length ≠ 4 ∧
    State.powered (live.setPort .a (live.port .a).goBusOff) = true ∧
    (State.port (live.setPort .a (live.port .a).goBusOff) .a).st = .busOff ∧
    (State.port (live.setPort .a (live.port .a).goBusOff) .a).recovery = some 0 ∧
    requestBytes (.present body) = some (body, [0x01]) ∧
    requestBytes (.present ⟨.a, .engine⟩) = some (⟨.a, .engine⟩, [0x01]) ∧
    requestBytes (.present ⟨.a, .wired⟩) = some (⟨.a, .wired⟩, [0x01]) := by
  decide

theorem witness_OffersEnterOrSetTheLostFlag :
    ((live.port .a).st = .active ∧ (live.port .a).queue.length < 12) ∧
    (PortRecord.goBusOff (live.port .a)).st = .busOff ∧
    12 ≤ (List.replicate 12 (⟨0, []⟩ : TxFrame)).length ∧ Side.b ≠ Side.a := by decide

def silent (time : Nat) : State :=
  live.setClient .body { live.client .body with st := .active, silence := some time }

/-- The silence timer at its timeout; CLIENT_CFG with the timer below the new timeout, and at it. -/
theorem witness_SilenceLosesTheClient :
    ((silent 500).Running ∧ Client.body ≠ .wired ∧ ((silent 500).client .body).st = .active ∧
      ((silent 500).client .body).silence = some 500 ∧ ((silent 500).client .body).timeout ≤ 500) ∧
    ((silent 49).Takes service ∧ (1 : Byte).toNat = Client.body.number ∧
      (((silent 49).heard service).client .body).silence = some 49 ∧
      (((silent 50).heard service).client .body).silence = some 50) ∧
    ((((silent 0).setSlot 14 .body (some (.drive .forward 3 false))).slot 14 .body).map
      Entry.isDrive) = some true :=
  ⟨⟨⟨rfl, rfl⟩, by decide, rfl, rfl, by decide⟩,
    ⟨takes_service _ ⟨rfl, rfl⟩ rfl, by decide, rfl, rfl⟩, rfl⟩

/-! ### Witnesses: requests -/

def climate : Source := ⟨.a, .climate⟩

/-- A channel byte of 16 and one of 0xFF; a bridge, a channel that is no lamp, a group of 2; a missing
right on a lamp and on a bridge; a bridge that ENGINE owns. -/
theorem witness_ChannelRequestsAreCheckedInOrder :
    live.Takes body ∧ live.Takes climate ∧ 16 ≤ (16 : Byte).toNat ∧ (16 : Byte) ≠ 0xFF ∧
    NamesChannel 14 14 ∧ typeOf 14 = .bridge ∧ typeOf 8 ≠ .lamp ∧ 2 ≤ (2 : Byte).toNat ∧
    (1 : Byte).toNat < 2 ∧ ¬ live.MayDemand .climate 0 ∧ typeOf 0 = .lamp ∧
    ¬ live.MayDemand .climate 14 ∧ ¬ live.MayInhibit .body 0 ∧ ¬ live.MayClear .climate 0 ∧
    bridgeOf 14 = some .a ∧ live.MayDemand .body 14 ∧
    (State.bridge (live.setBridge .a { live.bridge .a with owner := some .engine }) .a).owner
      = some .engine := by
  refine ⟨takes_body _ live_runs rfl, ⟨live_runs, rfl, rfl⟩, by decide, by decide, rfl, rfl, by decide,
    by decide, by decide, ?_, rfl, ?_, ?_, ?_, rfl, Or.inl rfl, rfl⟩
  · rintro (h | h) <;> exact absurd h (by decide)
  · rintro (h | h) <;> exact absurd h (by decide)
  · rintro (h | h) <;> exact absurd h (by decide)
  · intro h; exact h rfl

theorem witness_SetRequestsRecordTheirEntry :
    live.Takes body ∧ NamesChannel 0 0 ∧ live.MayDemand .body 0 ∧ typeOf 0 ≠ .bridge ∧
    typeOf 0 = .lamp ∧ (1 : Half).toNat ≠ 0 ∧ NamesSide 1 .b ∧ (live.group .b).phase = .idle ∧
    (State.group (live.startCycle .b) .b).phase ≠ .idle :=
  ⟨takes_body _ live_runs rfl, rfl, Or.inl rfl, by decide, rfl, by decide, rfl, rfl, by decide⟩

theorem no_inhibit (s : State) (h : ∀ ch : Ch, s.demand[ch] = emptySlots) (ch : Ch) (cl : Client) :
    s.slot ch cl ≠ some .inhibit := by
  unfold State.slot; rw [h]; cases cl <;> decide

/-- The wish stands; it begins in TRIPPED and in LOCKED; it begins in OFF on a feed in CUT, in SURGE at
class 2, at class 0 and at class 2 in NORMAL. -/
theorem witness_WishesBeginByTheState :
    (running 0 live).Takes body ∧ NamesChannel 0 0 ∧ (running 0 live).MayDemand .body 0 ∧
    (∀ cl, (running 0 live).slot 0 cl ≠ some .inhibit) ∧ ((running 0 live).chan 0).wish = true ∧
    (State.chan (edit 0 (fun c => { c with st := .tripped }) live) 0).st = .tripped ∧
    (State.chan (edit 0 (fun c => { c with st := .locked }) live) 0).st = .locked ∧
    (live.chan 6).wish = false ∧ (live.chan 6).st = .off ∧ (live.chan 6).profile.cls = 2 ∧
    (live.chan 0).profile.cls = 0 ∧ (live.monitor .a).st ≠ .cut ∧ (tired.monitor .a).st = .cut ∧
    (Monitor.enter (live.monitor .a) .surge).st = .surge := by
  refine ⟨takes_body _ ⟨rfl, rfl⟩ rfl, rfl, Or.inl rfl, ?_, by decide, by decide, by decide, rfl, rfl,
    rfl, rfl, by decide, rfl, rfl⟩
  exact fun cl => no_inhibit _ (by decide) 0 cl

theorem kept_running_8 : (running 8 live).AdmissionKept := by
  refine ⟨fun f => ?_, by decide⟩
  cases f <;> exact ⟨⟨by decide, by decide, by decide, by decide⟩, by decide, by decide⟩

theorem witness_InhibitEndsTheWish :
    (running 8 live).Takes engine ∧ NamesChannel 8 8 ∧ (running 8 live).MayInhibit .engine 8 ∧
    (running 8 live).AdmissionKept ∧ ((running 8 live).chan 8).wish = true :=
  ⟨takes_engine _ ⟨rfl, rfl⟩ rfl, rfl, Or.inl rfl, kept_running_8, by decide⟩

/-- RELEASE of all and of one, with and without an entry, and with a DRIVE entry; a TIMED entry with no time
left. -/
theorem witness_EntriesAreRemoved :
    live.Takes body ∧ (∀ x, ((live.slot x .body).map Entry.isDrive).getD false = false) ∧
    NamesChannel 15 15 ∧ live.slot 0 .body = none ∧ typeOf 0 ≠ .bridge ∧ live.MayDemand .body 0 ∧
    ((((driving .drive false live).slot 14 .body).map Entry.isDrive).getD false) = true ∧
    (State.slot (live.setSlot 0 .body (some (.timed 300 0 9))) 0 .body) = some (.timed 300 0 9) :=
  ⟨takes_body _ live_runs rfl, by decide, rfl, by decide, by decide, Or.inl rfl, by decide, by decide⟩

/-- An inhibited channel, one without entries, and one with a started FLASH entry in ON_PHASE. -/
theorem witness_CombinedDemandOfAChannel :
    State.slot (live.setSlot 8 .engine (some .inhibit)) 8 .engine = some .inhibit ∧
    (∀ cl, live.slot 0 cl = none) ∧
    State.slot (live.setSlot 0 .body (some (.flash 700 .a 0 0 true false))) 0 .body
      = some (.flash 700 .a 0 0 true false) ∧
    (State.group (live.startCycle .a) .a).phase = .onPhase := by
  refine ⟨by decide, fun cl => by cases cl <;> decide, by decide, rfl⟩

theorem witness_TripCountsAreCleared :
    live.Takes body ∧ NamesChannel 0 0 ∧ live.MayClear .body 0 ∧
    (State.chan (edit 0 (fun c => { c with st := .on, goodRun := some 10000 }) live) 0).st = .on ∧
    (State.chan (edit 0 (fun c => { c with st := .on, goodRun := some 10000 }) live) 0).goodRun
      = some 10000 := by
  refine ⟨takes_body _ live_runs rfl, rfl, ?_, by decide, by decide⟩
  intro h; exact absurd h (by decide)

/-! ### Witnesses: wired inputs -/

def keyed (level : Bool) (s : State) : State :=
  { s with pins := { s.pins with key := ⟨!level, level, 19⟩ } }

/-- A sample that moves nothing; one that moves KEY, in ACTIVE, and in SLEEP both ways. -/
theorem witness_WiredSamplesAreDebounced :
    live.powered = true ∧ (live.samplePins brakeOn).level .brake = live.level .brake ∧
    ((keyed true live).samplePins allOff).level .key ≠ (keyed true live).level .key ∧
    ((keyed false asleep).samplePins ⟨false, false, false, true⟩).level .key = true ∧
    ((keyed true asleep).samplePins allOff).level .key = false ∧ asleep.part = .sleep := by decide

/-- BRAKE active after its twentieth sample, and inactive after it. -/
theorem witness_InputsPlaceAndRemoveEntries :
    (nearly false live).powered = true ∧ (nearly false live).level .brake = false ∧
    ((nearly false live).samplePins brakeOn).level .brake = true ∧
    ((nearly false live).samplePins brakeOn).level .hazard = (nearly false live).level .hazard ∧
    ((nearly false live).samplePins brakeOn).level .reverse = (nearly false live).level .reverse ∧
    (nearly true live).Running ∧ (nearly true live).level .brake = true ∧
    ((nearly true live).samplePins allOff).level .brake = false :=
  ⟨rfl, rfl, by decide, by decide, by decide, ⟨rfl, rfl⟩, rfl, by decide⟩

/-! ### Witnesses: admission -/

def held (level remaining : Nat) (f : Feed) (s : State) : State :=
  s.setUnit f { s.unit f with hold := some ⟨.engine, level, remaining⟩ }

/-- An empty queue; a head blocked by a hold of level 2 on a class 2 channel; a head that fits. -/
theorem witness_QueuesAreFilledAndExamined :
    (live.unit .a).queue = [] ∧
    (∃ e, ((held 2 9 .a (waiting 6 0 live)).unit .a).queue.head? = some e ∧ ¬ e.cls < 2) ∧
    (∃ e, ((waiting 6 0 live).unit .a).queue.head? = some e ∧ feedOf e.ch = .a ∧
      (waiting 6 0 live).fits .a e = true) ∧
    ∀ e ∈ ((waiting 6 0 live).unit .a).queue, feedOf e.ch = .a :=
  ⟨rfl, ⟨_, rfl, by decide⟩, ⟨_, rfl, by decide, by decide⟩, by decide⟩

def fullCounter (s : State) : State := s.setUnit .a { s.unit .a with counter := 4294967295 }

/-- A PWM channel and a bridge with the counter below its end, and the counter at its end. -/
theorem witness_AdmissionEntersRamping :
    (live.unit .a).counter < 4294967295 ∧ bridgeOf 6 = none ∧ bridgeOf 15 = some .b ∧
    ((fullCounter (running 0 live)).unit (feedOf 6)).counter = 4294967295 ∧
    ((fullCounter (running 0 live)).chan 6).admitted = false ∧
    ((fullCounter (running 0 live)).chan 0).stamp = some 1 ∧
    ∀ x : Ch, ((fullCounter (running 0 live)).chan x).admitted = true ↔ x = 0 :=
  ⟨by decide, rfl, rfl, by decide, by decide, by decide, by decide⟩

/-- The counter at its end with no channel of the feed admitted: the admission gets number 1 (log 37). -/
theorem test_renumbering_without_channels :
    (∀ x : Ch, ((fullCounter live).chan x).admitted = false) ∧
    ((fullCounter live).admitChannel 6).unit .a = { live.unit .a with
      counter := 1, sumS := 300, sumR := 60 } ∧
    (((fullCounter live).admitChannel 6).chan 6).stamp = some 1 := by decide

/-- An inrush window at 0; an ADMIT_DELAY timer at 5,000 ms. -/
theorem witness_RampingEndsAndWaitingIsReported :
    (ramping 0 live).Running ∧ ((ramping 0 live).chan 0).st = .ramping ∧
    ((ramping 0 live).chan 0).window = some 0 ∧ (waiting 6 5000 live).Running ∧
    ((waiting 6 5000 live).unit (feedOf 6)).queue = [] ++ ⟨6, 2, some 5000⟩ :: [] :=
  ⟨⟨rfl, rfl⟩, by decide, by decide, ⟨rfl, rfl⟩, by decide⟩

/-- A free record, one of the sender's, and one that has run out. -/
theorem witness_HoldsBeginAndEnd :
    NamesSide 0 .a ∧ live.Takes engine ∧ (live.unit .a).hold = none ∧
    (held 3 0 .a live).Takes engine ∧ ((held 3 0 .a live).unit .a).hold = some ⟨.engine, 3, 0⟩ :=
  ⟨rfl, takes_engine _ live_runs rfl, rfl, takes_engine _ ⟨rfl, rfl⟩ rfl, rfl⟩

/-! ### Witnesses: samples -/

/-- A channel that has conducted in the sense interval in progress. -/
def conducted (ch : Ch) (s : State) : State := edit ch (fun c => { c with conducted := true }) s

theorem running_0_runs : (running 0 live).Running := ⟨rfl, rfl⟩
theorem ramping_0_runs : (ramping 0 live).Running := ⟨rfl, rfl⟩

/-- A short in ON at SHORT, one in RAMPING at ISHORT, and a sample one below it; an interval with
conduction at the sample, one with conduction before it, and one without. -/
theorem witness_SamplesUpdateTheHeat :
    (running 0 live).Running ∧ ((running 0 live).chan 0).st = .on ∧
    ((running 0 live).chan 0).profile.short ≤ 400 ∧ (ramping 0 live).Running ∧
    ((ramping 0 live).chan 0).st = .ramping ∧ ((ramping 0 live).chan 0).profile.ishort ≤ 600 ∧
    ¬ ((ramping 0 live).chan 0).profile.ishort ≤ 599 ∧ (running 0 live).conducts 0 = true ∧
    (ramping 0 live).conducts 0 = true ∧ (State.chan (conducted 0 live) 0).conducted = true ∧
    (live.chan 0).conducted = false ∧ live.conducts 0 = false :=
  ⟨running_0_runs, by decide, by decide, ramping_0_runs, by decide, by decide, by decide, by decide,
    by decide, by decide, by decide, by decide⟩

def hot (ch : Ch) (q : Nat) (s : State) : State := edit ch (fun c => { c with q := q }) s

/-- A short at the threshold; a Q one step above Ltrip with no on-current; a trip that locks. -/
theorem witness_SamplesTrip :
    (running 0 live).Running ∧ ((running 0 live).chan 0).st = .on ∧
    ((running 0 live).chan 0).profile.short = 400 ∧
    ((hot 0 1639000 (running 0 live)).chan 0).ltrip < heatUpdate 13 0 1639000 ∧
    (State.chan (edit 0 (fun c => { c with tripCount := 3 }) (running 0 live)) 0).profile.retries
      < 3 + 1 := by
  exact ⟨running_0_runs, by decide, by decide, by decide, by decide⟩

def tripped (ch : Ch) (wish : Bool) (q : Nat) (s : State) : State :=
  edit ch (fun c => { c with st := .tripped, wish := wish, q := q }) s

/-- TRIPPED at Lrestart without and with a wish, at class 0, at class 2, and on a feed in CUT; and a Q
still above it. -/
theorem witness_CoolingChannelsRetryOrGoOff :
    (tripped 0 false 409600 live).Running ∧ ((tripped 0 false 409600 live).chan 0).st = .tripped ∧
    heatUpdate 13 0 409600 ≤ 80 * 80 * 64 ∧ ¬ heatUpdate 13 0 500000 ≤ 80 * 80 * 64 ∧
    ((tripped 0 true 0 live).chan 0).wish = true ∧ ((tripped 0 true 0 live).chan 0).profile.cls = 0 ∧
    ((tripped 6 true 0 live).chan 6).profile.cls ≠ 0 ∧ (tripped 6 true 0 tired).Running ∧
    ((tripped 6 true 0 tired).monitor (feedOf 6)).st = .cut :=
  ⟨⟨rfl, rfl⟩, by decide, by decide, by decide, by decide, by decide, by decide, ⟨rfl, rfl⟩, rfl⟩

def opened (low good : Nat) (flag : Bool) (s : State) : State :=
  edit 0 (fun c => { c with lowCount := low, goodCount := good, openFlag := flag }) s

/-- A driving bridge with an open-load threshold of 70. -/
def openBridge : State :=
  edit 14 (fun c => { c with lowCount := 99, profile := { c.profile with openThr := 70 } })
    (driving .drive false live)

/-- The hundredth low sample, one below OPEN, and the hundredth good one, at OPEN; a bridge in DRIVE with
the hundredth low sample. -/
theorem witness_OpenLoadIsCounted :
    (opened 99 0 false (running 0 live)).Running ∧
    ((opened 99 0 false (running 0 live)).chan 0).st = .on ∧
    0 < ((opened 99 0 false (running 0 live)).chan 0).profile.openThr ∧
    4 < ((opened 99 0 false (running 0 live)).chan 0).profile.openThr ∧
    min 100 (((opened 99 0 false (running 0 live)).chan 0).lowCount + 1) = 100 ∧
    ((opened 99 0 false (running 0 live)).chan 0).openFlag = false ∧
    ((opened 0 99 true (running 0 live)).chan 0).profile.openThr ≤ 5 ∧
    min 100 (((opened 0 99 true (running 0 live)).chan 0).goodCount + 1) = 100 ∧
    ((opened 0 99 true (running 0 live)).chan 0).openFlag = true ∧
    5 < ((running 0 live).chan 0).profile.short ∧ heatUpdate 13 5 0 ≤ 80 * 80 * 256 ∧
    State.conducts (opened 99 0 false (running 0 live)) 0 = true ∧
    State.conducts (opened 0 99 true (running 0 live)) 0 = true ∧
    (openBridge.Running ∧ openBridge.conducts 14 = true ∧ (openBridge.chan 14).st = .on ∧
      69 < (openBridge.chan 14).profile.openThr ∧ 69 < (openBridge.chan 14).profile.short ∧
      min 100 ((openBridge.chan 14).lowCount + 1) = 100 ∧ (openBridge.chan 14).openFlag = false ∧
      heatUpdate 10 69 0 ≤ 100 * 100 * 256) :=
  ⟨⟨rfl, rfl⟩, by decide, by decide, by decide, by decide, by decide, by decide, by decide, by decide,
    by decide, by decide, by decide, by decide, ⟨rfl, rfl⟩, by decide, by decide, by decide, by decide,
    by decide, by decide, by decide⟩

/-- A RAMPING lamp below ISHORT, a running lamp with OPEN at 0, and one without an on-current. -/
theorem witness_OpenLoadIsCounted_notCounted :
    (ramping 0 live).Running ∧ ((ramping 0 live).chan 0).st = .ramping ∧ bridgeOf 0 = none ∧
    5 < ((ramping 0 live).chan 0).profile.ishort ∧ heatUpdate 13 5 0 ≤ 80 * 80 * 256 ∧
    (State.chan (edit 0 (fun c => { c with profile := { c.profile with openThr := 0 } }) (running 0 live))
      0).profile.openThr = 0 ∧
    ((running 0 live).chan 0).st = .on ∧ heatUpdate 13 0 0 ≤ 80 * 80 * 256 ∧
    bridgeOf 14 = some .a ∧ ((driving .drive false live).chan 14).profile.openThr = 0 ∧
    ((driving .drive false live).chan 14).st = .on :=
  ⟨ramping_0_runs, by decide, rfl, by decide, by decide, by decide, by decide, by decide, rfl, by decide,
    by decide⟩

/-- A period that has begun and waits for its latch. -/
theorem witness_PeriodStartsLatchTheDuty :
    (running 0 live).Running ∧ ((running 0 live).chan 0).st = .on ∧
    ((running 0 live).chan 0).profile.period = some 5000 ∧
    (State.chan (edit 0 (fun c => { c with periodTimer := some ⟨0, 1⟩ }) (running 0 live)) 0).periodTimer
      = some ⟨0, 1⟩ ∧ 0 < (⟨0, 1⟩ : PeriodTimer).starts :=
  ⟨running_0_runs, by decide, by decide, by decide, by decide⟩

/-- Vavg one above VT, at VT, and VT 0; a heater. -/
theorem witness_AppliedDutyIsCompensated :
    0 < 240 ∧ 240 < 241 ∧ 240 ≤ 240 ∧ ChannelType.heater ≠ .lamp ∧
    appliedDuty .lamp 240 241 1000 = 991 ∧ appliedDuty .lamp 0 450 1000 = 1000 := by decide

/-- Tmin at half of PERIOD, and duties 1 and 999. -/
theorem witness_OnTimeIsClamped : 2 * 40 ≤ 80 ∧ 0 < 1 ∧ 999 < 1000 ∧ onTimeOf 40 80 1 = 40 := by decide

theorem witness_OutputsFollowTheStates :
    (running 0 live).powered = true ∧ ChState.off ≠ .ramping ∧ ChState.off ≠ .on ∧
    bridgeOf 0 = none ∧ (running 0 live).conducts 0 = true ∧ bridgeOf 14 = some .a ∧
    State.conducts (driving .drive false live) 14 = true ∧
    (State.bridge (driving .drive false live) .a).st = .drive ∧
    (State.bridge (driving .brake false live) .a).st = .brake ∧
    (State.bridge (driving (.dead .afterBrake) false live) .a).st = .dead .afterBrake ∧
    (live.bridge .a).st = .idle ∧ State.powered { live with powered := false } = false := by decide

/-! ### Witnesses: bridges -/

/-- The channel of BODY's drive, as its demand stands while it drives. -/
def drove (st : BridgeState) (ending redrive : Bool) : State :=
  let s := edit 14 (fun c => { c with pending := 1000, applied := 1000 }) (driving st ending live)
  s.setBridge .a { s.bridge .a with redrive := redrive }

theorem drove_takes (st : BridgeState) (ending redrive : Bool) : (drove st ending redrive).Takes body :=
  takes_body _ ⟨rfl, rfl⟩ rfl

theorem drove_alone (st : BridgeState) (ending redrive : Bool) (cl : Client) (h : cl ≠ .body) :
    (drove st ending redrive).slot 14 cl = none := by
  cases cl <;> first | rfl | exact absurd rfl h

/-- BODY's DRIVE while it owns the bridge, in DRIVE both ways and in an ending stage; a DRIVE of an idle
bridge whose channel is OFF. -/
theorem witness_DrivesBegin :
    (drove .drive false false).Takes body ∧ NamesChannel 14 (bridgeChannel .a) ∧
    (drove .drive false false).MayDemand .body 14 ∧
    ((drove .drive false false).bridge .a).owner = some .body ∧
    ((drove .drive false false).chan 14).wish = true ∧
    ((drove .drive false false).chan 14).inhibited = false ∧
    ((drove .drive false false).chan 14).pending = 1000 ∧
    ((drove .drive false false).bridge .a).st = .drive ∧
    ((drove .drive false false).bridge .a).dir = .forward ∧
    ((drove .brake true false).bridge .a).st = .brake ∧
    ((drove (.dead .beforeDrive) false false).bridge .a).st = .dead .beforeDrive ∧
    (live.bridge .a).owner = none ∧ (live.bridge .a).st = .idle ∧ (live.chan 14).st = .off ∧
    (live.chan 14).wish = false ∧ (live.chan 14).profile.cls = 1 ∧ (∀ cl, live.slot 14 cl = none) := by
  refine ⟨drove_takes _ _ _, rfl, Or.inl rfl, by decide, by decide, by decide, by decide, by decide,
    by decide, by decide, by decide, rfl, rfl, rfl, rfl, rfl, ?_⟩
  intro cl; cases cl <;> rfl

/-- A TRIPPED bridge that nobody owns. -/
theorem witness_DrivesBegin_tripped :
    (tripped 14 false 0 live).Takes body ∧ (tripped 14 false 0 live).MayDemand .body 14 ∧
    ((tripped 14 false 0 live).chan 14).st = .tripped ∧ ((tripped 14 false 0 live).chan 14).wish = false ∧
    ((tripped 14 false 0 live).bridge .a).owner = none ∧
    ((tripped 14 false 0 live).bridge .a).st = .idle ∧
    ∀ cl, (tripped 14 false 0 live).slot 14 cl = none := by
  refine ⟨takes_body _ ⟨rfl, rfl⟩ rfl, Or.inl rfl, by decide, by decide, by decide, by decide, ?_⟩
  intro cl; cases cl <;> rfl

/-- Each stage with its timer run out; a rest timer at DEADT. -/
theorem witness_BridgeStagesFollow :
    (drove (.dead .beforeDrive) false false).Running ∧
    ((drove (.dead .beforeDrive) false false).bridge .a).owner = some .body ∧
    (drove (.dead .beforeDrive) false false).slot 14 .body = some (.drive .forward 3 false) ∧
    ((drove (.dead .beforeDrive) false false).bridge .a).stageTimer = some 0 ∧
    ((drove (.dead .afterBrake) false true).bridge .a).redrive = true ∧
    ((drove (.dead .beforeBrake) true false).bridge .a).st = .dead .beforeBrake ∧
    ((drove .brake true false).bridge .a).stageTimer = some 0 ∧
    (live.bridgeProfile .a).deadt ≤ 2 := by
  refine ⟨⟨rfl, rfl⟩, by decide, by decide, by decide, by decide, by decide, by decide, by decide⟩

/-- A drive timer at 0; a release; samples one below STALL, at STALL, and at the end of STALLT; the same
drive in RAMPING, and with STALL 0. -/
theorem witness_DrivesEndThroughDead :
    (drove .drive false false).Running ∧ ((drove .drive false false).bridge .a).driveTimer = some 0 ∧
    ((drove .drive false false).bridge .a).owner = some .body ∧
    (drove .drive false false).slot 14 .body = some (.drive .forward 3 false) ∧
    (drove .drive false false).Takes ⟨.a, .body⟩ ∧ ((drove .drive false false).chan 14).st = .on ∧
    ((drove .drive false false).chan 14).profile.openThr = 0 ∧
    350 < ((drove .drive false false).chan 14).profile.short ∧
    heatUpdate 10 350 0 ≤ 100 * 100 * 256 ∧
    ((drove .drive false false).bridgeProfile .a).stall = 350 ∧
    ((drove .drive false false).bridge .a).stall + 1 < ((drove .drive false false).bridgeProfile .a).stallt ∧
    ((drove .drive false false).bridgeProfile .a).stallt ≤ 59 + 1 ∧
    (edit 14 (fun c => { c with st := .ramping }) (drove .drive false false)).slot 14 .body
      = some (.drive .forward 3 false) ∧
    350 < ((drove .drive false false).chan 14).profile.ishort ∧
    (State.bridgeProfile (edit 14 (fun c => { c with profile := { c.profile with
      bridge := c.profile.bridge.map fun b => { b with stall := 0 } } }) (drove .drive false false))
      .a).stall = 0 :=
  ⟨⟨rfl, rfl⟩, by decide, by decide, by decide, drove_takes _ _ _, by decide, by decide, by decide,
    by decide, by decide, by decide, by decide, by decide, by decide, by decide⟩

theorem kept_drive : (drove .drive false false).AdmissionKept := by
  refine ⟨fun f => ?_, by decide⟩
  cases f <;> exact ⟨⟨by decide, by decide, by decide, by decide⟩, by decide, by decide⟩

/-- The admission units do not see the bridge's state. -/
theorem kept_drove (st : BridgeState) (ending redrive : Bool) :
    (drove st ending redrive).AdmissionKept := kept_drive

theorem bridges_before_drive : (drove (.dead .beforeDrive) false false).BridgesKept := by
  intro br
  cases br
  · refine ⟨fun cl e he => ?_, ⟨by decide, by decide, by decide⟩, by decide⟩
    cases cl <;> cases he; rfl
  · refine ⟨fun cl e he => ?_, ⟨by decide, by decide, by decide⟩, by decide⟩
    cases cl <;> cases he

theorem bridges_after_brake : (drove (.dead .afterBrake) true false).BridgesKept := by
  intro br
  cases br
  · refine ⟨fun cl e he => ?_, ⟨by decide, by decide, by decide⟩, by decide⟩
    cases cl <;> cases he; rfl
  · refine ⟨fun cl e he => ?_, ⟨by decide, by decide, by decide⟩, by decide⟩
    cases cl <;> cases he

/-- BODY's drive of a bridge whose channel still waits. -/
def undriven : State :=
  (edit 14 (fun c => { c with st := .suspended, wish := true, pending := 1000 })
    (live.setSlot 14 .body (some (.drive .forward 3 false)))).setBridge .a
    { live.bridge .a with owner := some .body }

/-- An end already marked; one in DRIVE; a waiting re-drive; a drive before its DRIVE stage, on a channel
that is ON and on one that is SUSPENDED. -/
theorem witness_HandedEndsActByTheStage :
    (drove .drive true false).slot 14 .body = some (.drive .forward 3 true) ∧
    (drove .drive false false).slot 14 .body = some (.drive .forward 3 false) ∧
    ((drove .drive false false).chan 14).st = .on ∧
    ((drove .brake false true).bridge .a).redrive = true ∧
    ((drove .brake false true).bridge .a).st = .brake ∧
    ((drove (.dead .beforeDrive) false false).bridge .a).st = .dead .beforeDrive ∧
    ((drove (.dead .beforeDrive) false false).bridge .a).owner = some .body ∧
    (drove (.dead .beforeDrive) false false).AdmissionKept ∧
    (drove (.dead .beforeDrive) false false).BridgesKept ∧
    undriven.slot 14 .body = some (.drive .forward 3 false) ∧ (undriven.chan 14).st = .suspended ∧
    (undriven.bridge .a).st = .idle ∧ (undriven.bridge .a).owner = some .body :=
  ⟨by decide, by decide, by decide, by decide, by decide, by decide, by decide, kept_drove _ _ _,
    bridges_before_drive, by decide, by decide, by decide, by decide⟩

theorem witness_DrivesAreOver :
    (drove (.dead .afterBrake) true false).Running ∧
    ((drove (.dead .afterBrake) true false).bridge .a).stageTimer = some 0 ∧
    ((drove (.dead .afterBrake) true false).bridge .a).redrive = false ∧
    ((drove (.dead .afterBrake) true false).bridge .a).owner = some .body ∧
    (drove (.dead .afterBrake) true false).slot 14 .body = some (.drive .forward 3 true) ∧
    (drove (.dead .afterBrake) true false).AdmissionKept ∧
    (drove (.dead .afterBrake) true false).BridgesKept ∧ (drove .drive false false).AdmissionKept ∧
    ((drove .drive false false).chan 14).wish = true ∧
    ∀ y, y ≠ .body → (drove .drive false false).slot 14 y = none :=
  ⟨⟨rfl, rfl⟩, by decide, by decide, by decide, by decide, kept_drove _ _ _,
    bridges_after_brake, kept_drive, by decide, fun y h => drove_alone _ _ _ y h⟩

/-! ### Witnesses: configuration and flash groups -/

/-- FLASH_CFG from BODY; FEED_CFG from SERVICE on a feed that is all OFF. -/
theorem witness_ConfigurationsAreWritten :
    live.Takes body ∧ NamesSide 1 .b ∧ live.Takes service ∧ NamesSide 0 .a ∧
    (∀ ch, feedOf ch = .a → (live.chan ch).st = .off) ∧ (live.unit .a).queue = [] :=
  ⟨takes_body _ live_runs rfl, rfl, takes_service _ live_runs rfl, rfl, by decide, rfl⟩

/-- The shortest and the longest configuration. -/
theorem witness_PhaseLengths : 200 ≤ 200 ∧ 2000 ≤ 2000 ∧ 300 ≤ 300 ∧ 700 ≤ 700 := by decide

def flashing (phase : Phase) (remaining : Nat) (s : State) : State :=
  (s.setSlot 0 .body (some (.flash 700 .a 5 remaining true false))).setGroup .a
    { s.group .a with phase := phase, timer := some 0 }

/-- The last flash of a count at an ON_PHASE end; an OFF_PHASE end with and without an entry. -/
theorem witness_PhasesEnd :
    (flashing .onPhase 1 live).Running ∧ ((flashing .onPhase 1 live).group .a).phase = .onPhase ∧
    ((flashing .onPhase 1 live).group .a).timer = some 0 ∧
    (flashing .onPhase 1 live).slot 0 .body = some (.flash 700 .a 5 1 true false) ∧
    ((flashing .offPhase 1 live).group .a).phase = .offPhase ∧
    (((flashing .offPhase 1 live).slot 0 .body).bind Entry.flashGroup) = some .a ∧
    ∀ ch : Ch, ∀ cl ∈ Client.all, ((live.slot ch cl).bind Entry.flashGroup) ≠ some .a :=
  ⟨⟨rfl, rfl⟩, by decide, by decide, by decide, by decide, by decide, by decide⟩

/-! ### Witnesses: feeds -/

/-- A met condition below its limit and at it, and a broken one. -/
theorem witness_CountersOfConsecutiveSamples :
    99 < 100 ∧ 4 < 5 ∧ 5 = 5 ∧ ¬ 100 < 100 ∧ 120 ≤ 120 ∧ 340 < 341 ∧ 320 ≤ 320 ∧ 600 < 601 := by
  decide

def counting (c : Counters) (restore : Option Nat) (s : State) : State :=
  s.setMonitor .a { s.monitor .a with counters := c, restoreTimer := restore }

/-- No change called for, with the restore timer at 2,000 and below it. -/
theorem witness_FeedSamplesMeasure :
    live.Running ∧ (live.takeFeedSample .a 270 10).feedChangeDue .a = none ∧
    ((live.takeFeedSample .a 270 10).monitor .a).counters.overload ≠ 1000 ∧
    (live.monitor .a).st = .normal ∧ (live.monitor .a).restoreTimer = some 0 ∧
    (Monitor.restoreTimer { live.monitor .a with restoreTimer := some 2000 }) = some 2000 :=
  ⟨live_runs, by decide, by decide, rfl, rfl, rfl⟩

/-- The four changes, each on the sample that completes its count. -/
theorem witness_FeedStateChangesAct :
    (counting ⟨4, 0, 0, 0, 0, 0, 0⟩ none live).Running ∧
    ((counting ⟨4, 0, 0, 0, 0, 0, 0⟩ none live).takeFeedSample .a 99 0).feedChangeDue .a = some .cut ∧
    ((counting ⟨0, 0, 0, 0, 1, 0, 0⟩ none live).takeFeedSample .a 341 0).feedChangeDue .a
      = some .surge ∧
    ((counting ⟨0, 0, 199, 0, 0, 0, 0⟩ none live).takeFeedSample .a 199 0).feedChangeDue .a
      = some .low ∧
    ((counting ⟨0, 49, 0, 0, 0, 0, 0⟩ none tired).takeFeedSample .a 120 0).feedChangeDue .a
      = some .normal :=
  ⟨⟨rfl, rfl⟩, by decide, by decide, by decide, by decide⟩

def suspended (ch : Ch) (s : State) : State :=
  edit ch (fun c => { c with st := .suspended, wish := true }) s

theorem kept_suspended : (suspended 6 live).AdmissionKept := by
  refine ⟨fun f => ?_, by decide⟩
  cases f <;> exact ⟨⟨by decide, by decide, by decide, by decide⟩, by decide, by decide⟩

/-- A TRIPPED bridge whose owner's DRIVE entry stands. -/
def trippedOwned : State :=
  (edit 14 (fun c => { c with st := .tripped, wish := true, pending := 1000 })
    (live.setSlot 14 .body (some (.drive .forward 3 false)))).setBridge .a
    { live.bridge .a with owner := some .body }

theorem kept_trippedOwned : trippedOwned.AdmissionKept := by
  refine ⟨fun f => ?_, by decide⟩
  cases f <;> exact ⟨⟨by decide, by decide, by decide, by decide⟩, by decide, by decide⟩

theorem bridges_trippedOwned : trippedOwned.BridgesKept := by
  intro br
  cases br
  · refine ⟨fun cl e he => ?_, ⟨by decide, by decide, by decide⟩, by decide⟩
    cases cl <;> cases he; rfl
  · refine ⟨fun cl e he => ?_, ⟨by decide, by decide, by decide⟩, by decide⟩
    cases cl <;> cases he

theorem bridges_drive : (drove .drive false false).BridgesKept := by
  intro br
  cases br
  · refine ⟨fun cl e he => ?_, ⟨by decide, by decide, by decide⟩, by decide⟩
    cases cl <;> cases he; rfl
  · refine ⟨fun cl e he => ?_, ⟨by decide, by decide, by decide⟩, by decide⟩
    cases cl <;> cases he

theorem bridges_running_8 : (running 8 live).BridgesKept := by
  intro br
  refine ⟨fun cl e he => ?_, ?_, ?_⟩
  · cases br <;> cases cl <;> cases he
  · cases br <;> exact ⟨by decide, by decide, by decide⟩
  · cases br <;> decide

/-- A running heater of class 3, a driving bridge, a TRIPPED bridge with its owner, and suspended channels
of class 0 and 2. -/
theorem witness_FeedsSuspendAndResume :
    (running 8 live).AdmissionKept ∧ (running 8 live).BridgesKept ∧ ((running 8 live).chan 8).st = .on ∧
    feedOf 8 = .b ∧ bridgeOf 8 = none ∧
    2 ≤ ((running 8 live).chan 8).profile.cls ∧ (drove .drive false false).AdmissionKept ∧
    (drove .drive false false).BridgesKept ∧
    ((drove .drive false false).chan (bridgeChannel .a)).wish = true ∧
    ((drove .drive false false).bridge .a).owner = some .body ∧
    trippedOwned.AdmissionKept ∧ trippedOwned.BridgesKept ∧ (trippedOwned.chan 14).st = .tripped ∧
    (suspended 6 live).AdmissionKept ∧ ((suspended 6 live).chan 6).st = .suspended ∧
    ((suspended 6 live).chan 6).profile.cls ≠ 0 ∧ ((suspended 0 live).chan 0).profile.cls = 0 :=
  ⟨kept_running_8, bridges_running_8, by decide, rfl, rfl, by decide, kept_drive, bridges_drive,
    by decide, by decide, kept_trippedOwned, bridges_trippedOwned, by decide, kept_suspended, by decide,
    by decide, by decide⟩

/-- A demand that its channel's controller has not been handed: BODY's STEADY entry on channel `ch`. -/
def asked (ch : Ch) (s : State) : State := s.setSlot ch .body (some (.steady 700 false))

/-- Nothing new; a new duty alone; a wish that begins in OFF and in TRIPPED; a wish that ends in LOCKED,
SUSPENDED, WAITING and ON. -/
theorem witness_WishesBeginByTheState_handOver :
    (live.combined 0).duty = (live.chan 0).pending ∧
    ((asked 0 (running 0 live)).combined 0).duty ≠ ((asked 0 (running 0 live)).chan 0).pending ∧
    ((asked 0 (running 0 live)).combined 0).wants = ((asked 0 (running 0 live)).chan 0).wish ∧
    ((asked 6 live).combined 6).wants = true ∧ ((asked 6 live).chan 6).wish = false ∧
    ((asked 6 live).chan 6).st = .off ∧ ((asked 6 live).chan 6).profile.cls = 2 ∧
    ((asked 0 (tripped 0 false 0 live)).combined 0).wants = true ∧
    ((asked 0 (tripped 0 false 0 live)).chan 0).st = .tripped ∧
    ((edit 0 (fun c => { c with st := .locked, wish := true }) live).combined 0).wants = false ∧
    ((suspended 6 live).combined 6).wants = false ∧ ((suspended 6 live).chan 6).wish = true ∧
    ((waiting 6 0 live).combined 6).wants = false ∧ ((waiting 6 0 live).chan 6).wish = true ∧
    ((running 0 live).combined 0).wants = false ∧ ((running 0 live).chan 0).wish = true := by decide

/-- BODY may ask for channel 0, a lamp; its INHIBIT stands; BRAKE is bound to channels. -/
theorem witness_WishesBeginByTheState_commands :
    live.Takes body ∧ NamesChannel 0 0 ∧ live.MayDemand .body 0 ∧ typeOf 0 = .lamp ∧ NamesSide 1 .b ∧
    (live.setSlot 0 .body (some .inhibit)).Takes body ∧
    (live.setSlot 0 .body (some .inhibit)).slot 0 .body = some .inhibit ∧
    live.boundChannels .brake = [0, 1, 5] :=
  ⟨takes_body _ live_runs rfl, rfl, Or.inl rfl, rfl, rfl, takes_body _ ⟨rfl, rfl⟩ rfl, by decide,
    by decide⟩

def lowFeed (s : State) : State :=
  s.setMonitor .b { s.monitor .b with st := .low, shedTimer := some 200, restoreTimer := none }

/-- A shed step that is due; a feed without a victim, with a class 3 one and with a bridge of class 2. -/
theorem witness_ShedsTakeOneVictim :
    (lowFeed (running 8 live)).Running ∧ ((lowFeed (running 8 live)).monitor .b).st = .low ∧
    ((lowFeed (running 8 live)).monitor .b).shedTimer = some 200 ∧
    (lowFeed (running 8 live)).victim .b = some 8 ∧ live.victim .b = none ∧
    (edit 14 (fun c => { c with profile := { c.profile with cls := 2 } })
      (drove .drive false false)).victim .a = some 14 :=
  ⟨⟨rfl, rfl⟩, by decide, by decide, by decide, by decide, by decide⟩

/-- The thousandth sample above CONT; the sample that brings the restore timer to 2,000, with and without a
SHED channel. -/
theorem witness_OverloadShedsAndRestoreReturns :
    (counting ⟨0, 0, 0, 0, 0, 0, 999⟩ none live).Running ∧
    ((counting ⟨0, 0, 0, 0, 0, 0, 999⟩ none live).takeFeedSample .a 270 601).feedChangeDue .a = none ∧
    (((counting ⟨0, 0, 0, 0, 0, 0, 999⟩ none live).takeFeedSample .a 270 601).monitor
      .a).counters.overload = 1000 ∧
    (live.unit .a).cont < 601 ∧
    (((counting Counters.zero (some 1999) live).takeFeedSample .a 270 600).monitor .a).restoreTimer
      = some 1999 ∧
    (((counting Counters.zero (some 1999) live).takeFeedSample .a 270 600).monitor .a).current
      ≤ (live.unit .a).cont ∧
    live.shedChannels .a = [] ∧
    (edit 6 (fun c => { c with st := .shed, wish := true }) live).shedChannels .a ≠ [] :=
  ⟨⟨rfl, rfl⟩, by decide, by decide, by decide, by decide, by decide, by decide, by decide⟩

/-! ### Witnesses: service requests and ports -/

/-- Channel bytes 16, 14 and 8; BODY where SERVICE is asked for; a running channel; a pending read; sides 2
and 0; client bytes 0 and 5; a hold of ENGINE's that SERVICE may not replace. -/
theorem witness_ConfigRequestsAreCheckedInOrder :
    live.Takes body ∧ live.Takes service ∧ 16 ≤ (16 : Byte).toNat ∧ typeOf 8 ≠ .bridge ∧
    ((running 8 live).chan 8).st ≠ .off ∧ 2 ≤ (2 : Byte).toNat ∧ (0 : Byte).toNat = 0 ∧
    4 < (5 : Byte).toNat ∧
    (State.port (live.setPort .a { live.port .a with read := some 3 }) .a).read ≠ none ∧
    ((held 1 9 .a live).unit .a).hold.map Hold.holder = some .engine ∧ feedOf 8 = .b :=
  ⟨takes_body _ live_runs rfl, takes_service _ live_runs rfl, by decide, by decide, by decide,
    by decide, by decide, by decide, by decide, by decide, by decide⟩

theorem witness_ProfilesAreWrittenClamped :
    live.Takes ⟨.a, .service⟩ ∧ NamesChannel 14 14 ∧ (live.chan 14).st = .off ∧
    bridgeOf 14 = some .a ∧ min 3 (0 : BitVec 4).toNat = 0 ∧ min 3 (15 : BitVec 4).toNat ≠ 0 :=
  ⟨takes_service _ live_runs rfl, rfl, rfl, rfl, by decide, by decide⟩

theorem witness_SoftResetClearsTheDemands : live.Takes ⟨.a, .service⟩ :=
  takes_service _ live_runs rfl

def queued (n : Nat) (read : Option Ch) (s : State) : State :=
  s.setPort .a { s.port .a with
    queue := List.replicate n ⟨0x501, [0]⟩, read := read, statusTimer := some 100 }

/-- A status timer at its interval; a STATUS_CFG below and at the timer; a departure that frees the third
slot; a pending read with three slots free. -/
theorem witness_StatusRoundsAndReads :
    (queued 0 none live).Running ∧ ((queued 0 none live).port .a).st = .active ∧
    ((queued 0 none live).port .a).statusTimer = some 100 ∧
    ((queued 0 none live).port .a).interval ≤ 100 ∧ (queued 0 none live).Takes ⟨.a, .service⟩ ∧
    NamesSide 0 .a ∧ (queued 10 none live).Takes body ∧
    ((queued 10 (some 5) live).port .a).queue = ⟨0x501, [0]⟩ :: List.replicate 9 ⟨0x501, [0]⟩ ∧
    9 < ((queued 10 (some 5) live).port .a).queue.length ∧
    ((queued 9 (some 5) live).port .a).queue.length ≤ 9 :=
  ⟨⟨rfl, rfl⟩, rfl, rfl, by decide, takes_service _ ⟨rfl, rfl⟩ rfl, rfl,
    takes_body _ ⟨rfl, rfl⟩ rfl, by decide, by decide, by decide⟩

/-- Error counts of 247 and 248 with a frame in the queue; a recovery timer at 200 ms, awake and asleep. -/
theorem witness_BusOffAndRecovery :
    (queued 1 none live).powered = true ∧ ((queued 1 none live).port .a).queue ≠ [] ∧
    ((queued 1 none live).port .a).st = .active ∧ 247 + 8 ≤ 255 ∧ 255 < 248 + 8 ∧
    (PortRecord.goBusOff (live.port .a)).st = .busOff ∧
    (PortRecord.goBusOff (live.port .a)).recovery = some 0 ∧ 200 ≤ 200 ∧ live.part = .active ∧
    asleep.part = .sleep := by decide

/-! ### Witnesses: frames and invariants -/

theorem witness_RequestFramesReadBack :
    (Instr.profileF ⟨.b, .service⟩ 15 600 50 50 50 1).wellFormed = true ∧
    encodeFrame 3 (.profileF ⟨.b, .service⟩ 15 600 50 50 50 1)
      = some (.b, ⟨false, false, 0x4B4, [0x35, 15, 2, 0x58, 50, 50, 50, 1]⟩) := by decide

theorem kept_live : live.AdmissionKept := by
  refine ⟨fun f => ?_, by decide⟩
  cases f <;> exact ⟨⟨by decide, by decide, by decide, by decide⟩, by decide, by decide⟩

theorem owners_live : live.OwnersKept := by
  refine ⟨?_, ?_⟩
  · intro ch cl; cases cl <;> revert ch <;> decide
  · intro br
    refine ⟨?_, ?_, ?_, ?_⟩
    · intro cl; cases br <;> cases cl <;> decide
    · cases br <;> decide
    · cases br <;> decide
    · cases br <;> decide

theorem coherent_live : live.Coherent := by
  refine ⟨kept_live, owners_live, ?_, ?_⟩
  · intro ch
    have h : (live.chan ch).st = .off ∧ (live.chan ch).wish = false := by revert ch; decide
    rw [h.1]; exact h.2
  · intro br
    refine ⟨?_, ?_, ?_⟩
    · intro cl e h; cases br <;> cases cl <;> cases h
    · cases br <;> exact ⟨by decide, by decide, by decide⟩
    · cases br <;> decide

theorem step_live : step live = .next live.tick := rfl

/-- A running lamp with its period timer in the middle of its period. -/
theorem periods_running : (running 0 live).PeriodsKept := by
  intro ch
  fin_cases ch
  all_goals first
    | exact ⟨by decide, rfl, rfl⟩
    | exact ⟨by decide, _, rfl, by decide, by decide, by decide, rfl⟩
    | exact ⟨by decide, _, rfl, by decide, by decide, by decide, rfl, by decide⟩

theorem witness_StepKeepsTheRanges :
    step live = .next live.tick ∧ live.QueuesBounded ∧ live.HeatInRange ∧ live.DutiesInRange ∧
    (running 0 live).PeriodsKept := by
  refine ⟨rfl, ?_, by intro ch; revert ch; decide, ?_, periods_running⟩
  · intro p; cases p <;> decide
  · intro ch
    have h : (live.chan ch).pending ≤ 1000 ∧ (live.chan ch).applied ≤ 1000 ∧
      (live.chan ch).profile.bindDuty ≤ 1000 := by revert ch; decide
    have hs : ∀ cl, live.slot ch cl = none := by intro cl; cases cl <;> revert ch <;> decide
    exact ⟨h.1, h.2.1, h.2.2, fun cl e he => by rw [hs] at he; cases he⟩

theorem witness_StepKeepsSleepAtRest :
    step asleep = .next asleep.tick ∧ asleep.SleepsAtRest ∧ asleep.part = .sleep :=
  ⟨rfl, ⟨⟨by decide, rfl⟩, fun _ => ⟨rfl, rfl, by decide⟩⟩, rfl⟩

theorem witness_StepKeepsAdmission :
    step live = .next live.tick ∧ live.AdmissionKept ∧ live.BudgetsKept := by
  refine ⟨rfl, kept_live, ?_⟩
  intro f; cases f <;> exact ⟨by decide, by decide⟩

def locked : State :=
  { (edit 0 (fun c => { c with st := .locked, tripCount := 4 }) live) with
    pending := [.clear body 0] }

theorem witness_StepKeepsTripsAndLocks :
    (∃ t, step locked = .next t) ∧ locked.AdmissionKept ∧ locked.TripsBounded ∧
    (locked.chan 0).st = .locked := by
  refine ⟨⟨_, rfl⟩, ⟨fun f => ?_, by decide⟩, ?_, by decide⟩
  · cases f <;> exact ⟨⟨by decide, by decide, by decide, by decide⟩, by decide, by decide⟩
  · intro ch; revert ch; decide

theorem witness_StepKeepsCoherence :
    step live = .next live.tick ∧ live.OwnersKept ∧ live.Coherent := ⟨rfl, owners_live, coherent_live⟩

theorem witness_LegsChangeOnlyThroughOff : step live = .next live.tick ∧ live.Coherent :=
  ⟨rfl, coherent_live⟩

/-! ### Single steps -/

/-- A SET_STEADY of BODY on a class 0 lamp of a NORMAL feed is admitted at once. -/
theorem test_step_admits_class_zero :
    (match exec (.setSteady body 0 1000) live with
      | .next t => ((t.chan 0).st, (t.unit .a).sumS, (t.unit .a).sumR, t.conducts 0)
      | _ => (.off, 0, 0, false)) = (.ramping, 300, 60, true) := by decide

/-- A heater inhibited by ENGINE goes OFF and gives its claims back. -/
theorem test_step_inhibit :
    (match exec (.setInhibit engine 8) (running 8 live) with
      | .next t => ((t.chan 8).st, (t.unit .b).sumS, (t.chan 8).inhibited)
      | _ => (.on, 1, false)) = (.off, 0, true) := by decide

/-- A short of a running lamp: TRIPPED, Q at Ltrip plus 256, one TRIP frame in each queue. -/
theorem test_step_short :
    (match exec (.senseSample 0 400 (some 400)) (running 0 live) with
      | .next t => ((t.chan 0).st, (t.chan 0).q, (t.port .a).queue.map TxFrame.data)
      | _ => (.off, 0, [])) =
      (.tripped, 1638656, [[1, 0, 0x23, 0x01, 0x90, 0x01, 0x90, 1]]) := by decide

/-- R70: a sample of a lamp that has not conducted in its interval keeps RMS 0 and no on-current, and a
full-scale operand trips nothing. -/
theorem test_step_sample_without_conduction :
    (match exec (.senseSample 0 1000 (some 1000)) live with
      | .next t => ((t.chan 0).st, (t.chan 0).lastRms, (t.chan 0).lastOn, (t.chan 0).q)
      | _ => (.on, 1, none, 1)) = (.off, 0, none, 0) := by decide

/-- R89: a millisecond leaves a fan of PERIOD 60 µs at position 40 with sixteen starts to latch. -/
theorem test_period_goes_round : PeriodTimer.tick 60 ⟨0, 0⟩ = ⟨40, 16⟩ := by decide

/-- R126: an open-ended drive that was renewed reports 1000 and no more. -/
theorem test_driven_time_in_range :
    (Event.driveEnd 14 .maxtime .body .forward 13000 none).bytes = [11, 14, 2, 1, 0, 3, 0xE8, 0] := by
  decide

/-- A part at rest with a silent network sleeps, and KEY wakes it. -/
theorem test_step_sleep_and_wake :
    (match exec .sleepEntry tired with
      | .next t => t.part
      | _ => .active) = .sleep ∧
    (match exec (.keyChange ⟨false, false, false, true⟩) (keyed false asleep) with
      | .next t => (t.part, t.quiet)
      | _ => (.sleep, none)) = (.active, some 0) := by decide

theorem witness_EveryCommandCompletes (zone : Fin 4) : Instr.sleepEntry ≠ .powerOnReset zone :=
  fun h => nomatch h

theorem witness_FramesCarryTheirBytes : 0 ≤ 8 ∧ 8 ≤ 8 := by decide

end Sys2Proof.Tests
end

section
/-!
PROOF. The profiles after power-on reset (R2). The part of a profile that depends on the channel itself
(CLASS and the WIRED binding) and the part that depends on its type are read separately.
-/
namespace Sys2Proof.Machine

/-! ### The channel records after reset -/

/-- R23: each channel's record takes its own power-on values, whatever the straps say. -/
@[simp] theorem State.chan_powerOn (zone : Fin 4) (ch : Ch) :
    (State.powerOn zone).chan ch = Channel.powerOn ch := by
  simp [State.chan, State.powerOn]

@[simp] theorem State.chan_reset (ch : Ch) : State.reset.chan ch = Channel.powerOn ch :=
  State.chan_powerOn _ ch

@[simp] theorem Channel.powerOn_profile (ch : Ch) :
    (Channel.powerOn ch).profile = Profile.powerOn ch := rfl

/-! ### The types by channel number (R1) -/

theorem typeOf_eq_lamp_iff (ch : Ch) : typeOf ch = .lamp ↔ ch.val < 8 := by
  unfold typeOf; split_ifs <;> simp <;> omega

theorem typeOf_eq_heater_iff (ch : Ch) : typeOf ch = .heater ↔ 8 ≤ ch.val ∧ ch.val < 12 := by
  unfold typeOf; split_ifs <;> simp <;> omega

theorem typeOf_eq_fan_iff (ch : Ch) : typeOf ch = .fan ↔ 12 ≤ ch.val ∧ ch.val < 14 := by
  unfold typeOf; split_ifs <;> simp <;> omega

theorem typeOf_eq_bridge_iff (ch : Ch) : typeOf ch = .bridge ↔ 14 ≤ ch.val := by
  unfold typeOf; split_ifs <;> simp <;> omega

/-! ### The fields that depend on the channel itself -/

@[simp] theorem Profile.powerOn_cls (ch : Ch) : (Profile.powerOn ch).cls = defaultClass ch := by
  unfold Profile.powerOn; cases typeOf ch <;> rfl

@[simp] theorem Profile.powerOn_bindInput (ch : Ch) :
    (Profile.powerOn ch).bindInput = defaultInput ch := by
  unfold Profile.powerOn; cases typeOf ch <;> rfl

@[simp] theorem Profile.powerOn_bindMode (ch : Ch) :
    (Profile.powerOn ch).bindMode = defaultMode ch := by
  unfold Profile.powerOn; cases typeOf ch <;> rfl

@[simp] theorem Profile.powerOn_bindDuty (ch : Ch) :
    (Profile.powerOn ch).bindDuty = defaultBindDuty ch := by
  unfold Profile.powerOn; cases typeOf ch <;> rfl

/-- The CLASS column of the channel table of the overview, read down the sixteen channels. -/
theorem defaultClass_eq_column : ∀ ch : Ch,
    defaultClass ch = [0, 0, 0, 0, 0, 0, 2, 0, 3, 2, 3, 3, 1, 1, 1, 1].getD ch.val 0 := by decide

/-- The Input column of R2's table of bindings; channels 6 to 15 are bound to none. -/
theorem defaultInput_eq_column : ∀ ch : Ch,
    defaultInput ch = [some .brake, some .brake, some .hazard, some .hazard, some .reverse,
      some .brake].getD ch.val none := by decide

theorem defaultMode_eq (ch : Ch) :
    defaultMode ch = if ch = 2 ∨ ch = 3 then .flash .a else .steady := by
  simp [defaultMode, Fin.ext_iff]

/-! ### The obligation -/

/-- Settles O4: the per-channel columns by the four column lemmas, then R2's table of types column by
column, each selected by the type that the channel's number gives it. -/
theorem defaultProfiles : Obligations.DefaultProfiles := by
  unfold Obligations.DefaultProfiles
  intro ch
  rw [State.chan_reset, Channel.powerOn_profile]
  refine ⟨?cls, ?input, ?mode, ?duty, ?lamp, ?heater, ?fan, ?bridge⟩
  case cls => rw [Profile.powerOn_cls, defaultClass_eq_column]
  case input => rw [Profile.powerOn_bindInput, defaultInput_eq_column]
  case mode => rw [Profile.powerOn_bindMode, defaultMode_eq]
  case duty => rw [Profile.powerOn_bindDuty, defaultBindDuty]
  case lamp =>
    intro below
    have lamp : typeOf ch = .lamp := (typeOf_eq_lamp_iff ch).mpr below
    simp [Profile.powerOn, lamp]
  case heater =>
    intro above below
    have heater : typeOf ch = .heater := (typeOf_eq_heater_iff ch).mpr ⟨above, below⟩
    simp [Profile.powerOn, heater]
  case fan =>
    intro above below
    have fan : typeOf ch = .fan := (typeOf_eq_fan_iff ch).mpr ⟨above, below⟩
    simp [Profile.powerOn, fan]
  case bridge =>
    intro above
    have bridge : typeOf ch = .bridge := (typeOf_eq_bridge_iff ch).mpr above
    simp [Profile.powerOn, BridgeProfile.powerOn, bridge]

end Sys2Proof.Machine
end

section
/-!
PROOF. The combined demand of a channel (R42), read from the slots: membership in the list of standing
entries is a slot that holds the entry, and the fold that computes the duty is a maximum.
-/
namespace Sys2Proof.Machine

/-! ### Entries and slots -/

theorem mem_entries_iff (s : State) (ch : Ch) (e : Entry) :
    e ∈ s.entries ch ↔ ∃ cl, s.slot ch cl = some e := by
  simp [State.entries, List.mem_filterMap, mem_allClients]

theorem exists_mem_entries_iff (s : State) (ch : Ch) :
    (∃ e, e ∈ s.entries ch) ↔ ∃ cl, s.slot ch cl ≠ none := by
  simp only [mem_entries_iff, Option.ne_none_iff_exists']
  exact exists_comm

theorem Entry.isInhibit_iff (e : Entry) : e.isInhibit = true ↔ e = .inhibit := by
  cases e <;> simp [Entry.isInhibit]

theorem Entry.givesPower_iff (e : Entry) : e.givesPower = true ↔ e ≠ .inhibit := by
  cases e <;> simp [Entry.givesPower]

/-! ### Inhibited and wants power -/

theorem combined_inhibited_iff (s : State) (ch : Ch) :
    (s.combined ch).inhibited = true ↔ ∃ cl, s.slot ch cl = some .inhibit := by
  simp [State.combined, List.any_eq_true, Entry.isInhibit_iff, mem_entries_iff]

theorem combined_not_inhibited_iff (s : State) (ch : Ch) :
    (s.combined ch).inhibited = false ↔ ∀ cl, s.slot ch cl ≠ some .inhibit := by
  rw [← Bool.not_eq_true, combined_inhibited_iff, not_exists]

theorem combined_wants_eq (s : State) (ch : Ch) : (s.combined ch).wants =
    (!(s.combined ch).inhibited && (s.entries ch).any Entry.givesPower) := rfl

/-- Where no entry is an INHIBIT, every entry gives power: a wish is then just an entry that stands. -/
theorem any_givesPower_iff (s : State) (ch : Ch) (free : ∀ cl, s.slot ch cl ≠ some .inhibit) :
    (s.entries ch).any Entry.givesPower = true ↔ ∃ cl, s.slot ch cl ≠ none := by
  rw [List.any_eq_true, ← exists_mem_entries_iff]
  constructor
  · rintro ⟨e, standing, -⟩
    exact ⟨e, standing⟩
  · rintro ⟨e, standing⟩
    obtain ⟨cl, held⟩ := (mem_entries_iff s ch e).mp standing
    refine ⟨e, standing, e.givesPower_iff.mpr ?_⟩
    rintro rfl
    exact free cl held

theorem combined_wants_iff (s : State) (ch : Ch) : (s.combined ch).wants = true ↔
    (∀ cl, s.slot ch cl ≠ some .inhibit) ∧ ∃ cl, s.slot ch cl ≠ none := by
  rw [combined_wants_eq, Bool.and_eq_true, Bool.not_eq_true', combined_not_inhibited_iff]
  exact and_congr_right (any_givesPower_iff s ch)

/-! ### The momentary duty -/

/-- R42: a FLASH entry gives its duty only from its start on, and only in the group's ON_PHASE. -/
theorem Entry.momentary_flash (groups : Pair FlashGroup) (duty : Nat) (g : Group)
    (count remaining : Nat) (started held : Bool) :
    (Entry.flash duty g count remaining started held).momentary groups =
      if started = true ∧ (groups.get g).phase = .onPhase then duty else 0 :=
  if_congr (by simp) rfl rfl

theorem mem_momentaries_iff (s : State) (ch : Ch) (n : Nat) :
    n ∈ (s.entries ch).map (Entry.momentary s.groups) ↔
      ∃ cl e, s.slot ch cl = some e ∧ e.momentary s.groups = n := by
  simp only [List.mem_map, mem_entries_iff, ← exists_and_right]
  exact exists_comm

theorem combined_duty_eq (s : State) (ch : Ch) : (s.combined ch).duty =
    if (s.combined ch).inhibited = true then 0
    else ((s.entries ch).map (Entry.momentary s.groups)).foldl max 0 := rfl

/-- R42: one INHIBIT entry overrides every other entry. -/
theorem combined_duty_of_inhibit {s : State} {ch : Ch} (held : ∃ cl, s.slot ch cl = some .inhibit) :
    (s.combined ch).duty = 0 := by
  rw [combined_duty_eq, if_pos ((combined_inhibited_iff s ch).mpr held)]

theorem combined_duty_of_no_entry {s : State} {ch : Ch} (empty : ∀ cl, s.slot ch cl = none) :
    (s.combined ch).duty = 0 := by
  have no_entries : s.entries ch = [] := by simp [State.entries, empty]
  simp [combined_duty_eq, no_entries]

/-- The fold of a list of numbers from 0 is an upper bound that one of them attains. -/
theorem isGreatest_foldl_max {l : List Nat} (nonempty : l ≠ []) :
    IsGreatest {n | n ∈ l} (l.foldl max 0) := by
  obtain ⟨m, greatest⟩ := Option.isSome_iff_exists.mp (List.isSome_max?_of_ne_nil nonempty)
  have fold : l.foldl max 0 = m := by rw [List.foldl_max, greatest]; exact Nat.zero_max m
  rw [fold]
  exact List.max?_eq_some_iff.mp greatest

/-- R42: without an INHIBIT the duty is the greatest momentary value of the entries that stand. -/
theorem combined_duty_isGreatest {s : State} {ch : Ch} (free : ∀ cl, s.slot ch cl ≠ some .inhibit)
    (standing : ∃ cl, s.slot ch cl ≠ none) :
    IsGreatest {n | ∃ cl e, s.slot ch cl = some e ∧ e.momentary s.groups = n}
      (s.combined ch).duty := by
  obtain ⟨e, mem⟩ := (exists_mem_entries_iff s ch).mpr standing
  have nonempty : (s.entries ch).map (Entry.momentary s.groups) ≠ [] :=
    List.ne_nil_of_mem (List.mem_map_of_mem mem)
  rw [combined_duty_eq, (combined_not_inhibited_iff s ch).mpr free, if_neg Bool.false_ne_true]
  simpa only [mem_momentaries_iff] using isGreatest_foldl_max nonempty

/-! ### The obligation -/

/-- Settles O17: inhibited and wants power by their readings from the slots; the duty is 0 under an
INHIBIT or without entries, and otherwise the maximum of the momentary values, attained by an entry. -/
theorem combinedDemandOfAChannel : Obligations.CombinedDemandOfAChannel := by
  unfold Obligations.CombinedDemandOfAChannel
  intro s ch d momentary
  have momentary_eq (e : Entry) : momentary e = e.momentary s.groups := by
    cases e with
    | flash duty g count remaining started held =>
      exact (Entry.momentary_flash s.groups duty g count remaining started held).symm
    | steady | timed | inhibit | drive => rfl
  refine ⟨combined_inhibited_iff s ch, combined_wants_iff s ch, ?zero, ?greatest⟩
  case zero =>
    rintro (held | empty)
    · exact combined_duty_of_inhibit held
    · exact combined_duty_of_no_entry empty
  case greatest =>
    intro free standing
    obtain ⟨attained, bound⟩ := combined_duty_isGreatest free standing
    simp only [momentary_eq]
    exact ⟨fun cl e held => bound ⟨cl, e, held, rfl⟩, attained⟩

end Sys2Proof.Machine
end

section
/-!
PROOF. The two figures of a latch (chapter 5): the applied duty that lamp voltage compensation leaves of the
pending duty (R97), and the on-time that the clamps leave of the applied duty (R95).
-/
namespace Sys2Proof.Machine

/-! ### The applied duty (R97) -/

theorem appliedDuty_of_compensated {t : ChannelType} {vt vavg : Nat} (lamp : t = .lamp)
    (target : 0 < vt) (above : vt < vavg) (p : Nat) :
    appliedDuty t vt vavg p = p * vt * vt / (vavg * vavg) :=
  if_pos ⟨lamp, target, above⟩

theorem appliedDuty_of_not_compensated {t : ChannelType} {vt vavg : Nat}
    (not_compensated : ¬ (t = .lamp ∧ 0 < vt ∧ vt < vavg)) (p : Nat) :
    appliedDuty t vt vavg p = p :=
  if_neg not_compensated

/-- A duty scaled by VT² / Vavg² does not grow while Vavg is not below VT. -/
theorem compensated_le {vt vavg : Nat} (le : vt ≤ vavg) (p : Nat) :
    p * vt * vt / (vavg * vavg) ≤ p := by
  apply Nat.div_le_of_le_mul
  calc p * vt * vt = vt * vt * p := by ring
    _ ≤ vavg * vavg * p := Nat.mul_le_mul_right p (Nat.mul_le_mul le le)

theorem appliedDuty_le (t : ChannelType) (vt vavg p : Nat) : appliedDuty t vt vavg p ≤ p := by
  by_cases compensated : t = .lamp ∧ 0 < vt ∧ vt < vavg
  · obtain ⟨lamp, target, above⟩ := compensated
    rw [appliedDuty_of_compensated lamp target above]
    exact compensated_le above.le p
  · exact (appliedDuty_of_not_compensated compensated p).le

/-- R97: the product formed before the division is at most 1000 × 280 × 280. -/
theorem compensation_product_le {p vt : Nat} (duty : p ≤ 1000) (target : vt ≤ 280) :
    p * vt * vt ≤ 78400000 :=
  calc p * vt * vt ≤ 1000 * 280 * 280 := Nat.mul_le_mul (Nat.mul_le_mul duty target) target
    _ = 78400000 := by norm_num

/-- Settles O30: the cases of R97 by its one condition, and the bounds of the duty and of the product. -/
theorem appliedDutyIsCompensated : Obligations.AppliedDutyIsCompensated := by
  unfold Obligations.AppliedDutyIsCompensated
  intro t vt vavg p
  refine ⟨?compensated, ?notAbove, ?noTarget, ?otherType, appliedDuty_le t vt vavg p,
    (appliedDuty_le t vt vavg p).trans, compensation_product_le, by decide, by decide⟩
  case compensated =>
    intro lamp target above
    exact appliedDuty_of_compensated lamp target above p
  case notAbove =>
    intro _ _ notAbove
    exact appliedDuty_of_not_compensated (fun ⟨_, _, above⟩ => above.not_ge notAbove) p
  case noTarget =>
    intro _ noTarget
    exact appliedDuty_of_not_compensated (fun ⟨_, target, _⟩ => target.ne' noTarget) p
  case otherType =>
    intro otherType
    exact appliedDuty_of_not_compensated (fun ⟨lamp, _⟩ => otherType lamp) p

/-! ### The on-time (R95) -/

@[simp] theorem onTimeOf_full (tmin period : Nat) : onTimeOf tmin period 1000 = period := rfl

@[simp] theorem onTimeOf_zero (tmin period : Nat) : onTimeOf tmin period 0 = 0 := rfl

/-- R95, step 3: a duty below 1000 takes no more than the whole period. -/
theorem firstOnTime_le {a : Nat} (below : a < 1000) (period : Nat) : period * a / 1000 ≤ period := by
  apply Nat.div_le_of_le_mul
  rw [Nat.mul_comm]
  exact Nat.mul_le_mul_right period below.le

/-- R95, steps 3 to 5: while Tmin is at most half of PERIOD, the raise and the lowering together clamp the
first on-time to the range from Tmin to PERIOD − Tmin. -/
theorem onTimeOf_eq_clamp {tmin period a : Nat} (half : 2 * tmin ≤ period) (pos : 0 < a)
    (below : a < 1000) :
    onTimeOf tmin period a = max tmin (min (period * a / 1000) (period - tmin)) := by
  unfold onTimeOf
  rw [if_neg below.ne, if_neg pos.ne']
  have within : period * a / 1000 ≤ period := firstOnTime_le below period
  generalize period * a / 1000 = first at within
  dsimp only
  by_cases short : first < tmin
  · have not_lowered : ¬ period - tmin < tmin := by omega
    rw [if_pos short, if_neg not_lowered]
    omega
  · rw [if_neg short]
    split_ifs <;> omega

/-- R89: the shortest PERIOD of each modulated type is at least twice its Tmin. -/
theorem two_mul_tmin_le_shortest {t : ChannelType} {r : Nat × Nat} (range : t.periodRange = some r) :
    2 * t.tmin ≤ r.1 := by
  cases t with
  | lamp | heater | fan => cases range; decide
  | bridge => cases range

theorem onTimeOf_lamp_default {d : Nat} (pos : 0 < d) (below : d < 1000) :
    onTimeOf 40 5000 d = if d ≤ 7 then 40 else if 993 ≤ d then 4960 else 5 * d := by
  rw [onTimeOf_eq_clamp (by decide) pos below]
  split_ifs <;> omega

theorem onTimeOf_heater_default {d : Nat} (pos : 0 < d) (below : d < 1000) :
    onTimeOf 5000 500000 d = if d ≤ 9 then 5000 else if 991 ≤ d then 495000 else 500 * d := by
  rw [onTimeOf_eq_clamp (by decide) pos below]
  split_ifs <;> omega

theorem onTimeOf_fan_default {d : Nat} (pos : 0 < d) (below : d < 1000) :
    onTimeOf 2 50 d = if d ≤ 39 then 2 else if 980 ≤ d then 48 else d / 20 := by
  rw [onTimeOf_eq_clamp (by decide) pos below]
  split_ifs <;> omega

/-- Settles O31: between the two continuous duties the on-time is a clamp, so each case of R95 and each row
of its table is linear arithmetic about `max` and `min`. -/
theorem onTimeIsClamped : Obligations.OnTimeIsClamped := by
  unfold Obligations.OnTimeIsClamped
  intro tmin period a t first
  refine ⟨fun _ range => two_mul_tmin_le_shortest range, ?table, fun half => ⟨?full, ?zero, ?clamped⟩⟩
  case table =>
    intro d below pos
    exact ⟨onTimeOf_lamp_default pos below, onTimeOf_heater_default pos below,
      onTimeOf_fan_default pos below⟩
  case full =>
    rintro rfl
    exact onTimeOf_full tmin period
  case zero =>
    rintro rfl
    exact onTimeOf_zero tmin period
  case clamped =>
    intro pos below
    have clamp : onTimeOf tmin period a = max tmin (min first (period - tmin)) :=
      onTimeOf_eq_clamp half pos below
    have within : first ≤ period := firstOnTime_le below period
    rw [clamp]
    clear_value first
    refine ⟨?raised, ?kept, ?lowered, ?atLeast, ?atMost⟩ <;> omega

end Sys2Proof.Machine
end

section
/-!
PROOF. The lengths of the two phases of a flash cycle (R105): the bounds of the effective period, and what
an ON share between 300 and 700 leaves of it for each phase.
-/
namespace Sys2Proof.Machine

/-! ### The effective period -/

theorem FlashGroup.effective_of_slow {r : FlashGroup} (slow : r.fast = false) :
    r.effective = r.curPeriod := by
  simp [FlashGroup.effective, slow]

theorem FlashGroup.effective_of_fast {r : FlashGroup} (fast : r.fast = true) :
    r.effective = r.curPeriod / 2 := by
  simp [FlashGroup.effective, fast]

/-- R105: the shortest PERIOD, 200 ms, is halved to 100 ms under the fast flag. -/
theorem FlashGroup.le_effective {r : FlashGroup} (shortest : 200 ≤ r.curPeriod) :
    100 ≤ r.effective := by
  cases rate : r.fast with
  | false =>
    rw [effective_of_slow rate]
    omega
  | true =>
    rw [effective_of_fast rate]
    omega

/-! ### The two phases -/

theorem FlashGroup.le_onLength {r : FlashGroup} (shortest : 200 ≤ r.curPeriod)
    (share : 300 ≤ r.curOn) : 30 ≤ r.onLength := by
  apply (Nat.le_div_iff_mul_le (by decide)).mpr
  calc 30 * 1000 = 100 * 300 := by norm_num
    _ ≤ r.effective * r.curOn := Nat.mul_le_mul (le_effective shortest) share

theorem FlashGroup.onLength_le_of_share_le {r : FlashGroup} {share : Nat} (le : r.curOn ≤ share) :
    r.onLength ≤ r.effective * share / 1000 :=
  Nat.div_le_div_right (Nat.mul_le_mul_left r.effective le)

theorem FlashGroup.le_offLength {r : FlashGroup} (shortest : 200 ≤ r.curPeriod)
    (share : r.curOn ≤ 700) : 30 ≤ r.offLength := by
  have period : 100 ≤ r.effective := le_effective shortest
  have on : r.onLength ≤ r.effective * 700 / 1000 := onLength_le_of_share_le share
  unfold FlashGroup.offLength
  omega

/-- R105: the two phases fill the effective period, with no gap. -/
theorem FlashGroup.onLength_add_offLength {r : FlashGroup} (share : r.curOn < 1000) :
    r.onLength + r.offLength = r.effective :=
  Nat.add_sub_of_le (firstOnTime_le share r.effective)

/-! ### The obligation -/

/-- Settles O39: the effective period is at least 100 ms, of which an ON share of at least 300 gives ON_PHASE
30 ms and one of at most 700 leaves OFF_PHASE 30 ms; the lengths themselves are R105's formulas, and the rows
of its table are those formulas evaluated. -/
theorem phaseLengths : Obligations.PhaseLengths := by
  unfold Obligations.PhaseLengths
  intro r p
  have effective : r.effective = p := rfl
  refine ⟨effective, rfl, rfl, ?bounds, ?table⟩
  case bounds =>
    intro shortest _ least most
    have below : r.curOn < 1000 := by omega
    exact ⟨FlashGroup.le_onLength shortest least, FlashGroup.le_offLength shortest most,
      FlashGroup.onLength_add_offLength below⟩
  case table => simp [FlashGroup.effective, FlashGroup.onLength, FlashGroup.offLength]

end Sys2Proof.Machine
end

section
/-!
PROOF. The seven counters of consecutive feed samples (R130): the rule of one counter, proved once for every
limit and condition, and the two places that write a monitor's counters.
-/
namespace Sys2Proof.Machine

/-! ### One counter -/

theorem counted_of_lt {limit n : Nat} (below : n < limit) : counted limit n true = n + 1 :=
  Nat.min_eq_right below

@[simp] theorem counted_limit (limit : Nat) : counted limit limit true = limit :=
  Nat.min_eq_left (Nat.le_succ limit)

@[simp] theorem counted_broken (limit n : Nat) : counted limit n false = 0 := rfl

/-- R130: a counter rises below its limit, stays at its limit, and is set to 0 by a sample that breaks its
condition. -/
theorem counted_consecutive (limit n : Nat) (met : Prop) [Decidable met] :
    (met → n < limit → counted limit n (decide met) = n + 1) ∧
    (met → n = limit → counted limit n (decide met) = limit) ∧
    (¬ met → counted limit n (decide met) = 0) := by
  refine ⟨?rises, ?stays, ?broken⟩
  case rises =>
    intro held below
    rw [decide_eq_true held, counted_of_lt below]
  case stays =>
    rintro held rfl
    rw [decide_eq_true held, counted_limit]
  case broken =>
    intro failed
    rw [decide_eq_false failed, counted_broken]

/-! ### The counters of a monitor -/

/-- R129, step 4: a sample updates the counters with its own values and the budgets read at it. -/
@[simp] theorem Monitor.takeSample_counters (m : Monitor) (voltage current vshed cont : Nat) :
    (m.takeSample voltage current vshed cont).counters =
      m.counters.update voltage current vshed cont := rfl

/-- R130: every change of the feed state sets every counter to 0. -/
@[simp] theorem Monitor.enter_counters (m : Monitor) (new : FeedState) :
    (m.enter new).counters = Counters.zero := rfl

/-! ### The obligation -/

/-- Settles O41: each of the seven counters follows the rule of one counter at its own limit and condition;
a monitor's sample updates them and its entry to a state clears them. -/
theorem countersOfConsecutiveSamples : Obligations.CountersOfConsecutiveSamples := by
  unfold Obligations.CountersOfConsecutiveSamples
  intro c voltage current vshed cont m st counter d
  refine ⟨?belowCut, ?aboveResume, ?belowShed, ?aboveShed, ?surge, ?surgeClear, ?overload,
    m.takeSample_counters voltage current vshed cont, m.enter_counters st⟩
  case belowCut => exact counted_consecutive 5 c.belowCut (voltage < 100)
  case aboveResume => exact counted_consecutive 50 c.aboveResume (120 ≤ voltage)
  case belowShed => exact counted_consecutive 200 c.belowShed (voltage < vshed)
  case aboveShed => exact counted_consecutive 2000 c.aboveShed (vshed + 10 ≤ voltage)
  case surge => exact counted_consecutive 2 c.surge (340 < voltage)
  case surgeClear => exact counted_consecutive 100 c.surgeClear (voltage ≤ 320)
  case overload => exact counted_consecutive 1000 c.overload (cont < current)

end Sys2Proof.Machine
end

section
/-!
PROOF. What a command can do to the part, said once: `Edit` lists the single changes that keep channels,
admission units, demand table and bridges in agreement, `Move` adds the three changes that a bridge and its
channel make together. Every operation of the model is a chain of moves (the next section), so an invariant
of a step needs one case for each edit and no walk through the operations.
-/
namespace Sys2Proof.Machine

/-! ### Changes that a command makes under its own name alone -/

/-- The command is a CLEAR that names the channel (R20). -/
def ClearsChannel (i : Instr) (ch : Ch) : Prop := ∃ src b, i = .clear src b ∧ NamesChannel b ch

/-- The command can switch legs of the bridge on: an expiry that begins DRIVE or BRAKE, ends DEAD after brake
or the rest timer, and a PROFILE_F that names the bridge's channel (R118, R121, R125). -/
def SwitchesOn (i : Instr) (br : Bridge) : Prop :=
  i = .deadBeforeDriveExpiry br ∨ i = .deadBeforeBrakeExpiry br ∨ i = .deadAfterBrakeExpiry br ∨
    i = .restTimerExpiry br ∨
    ∃ src b stall stallt braket deadt idle, i = .profileF src b stall stallt braket deadt idle ∧
      NamesChannel b (bridgeChannel br)

/-! ### Bridges -/

/-- What `State.BridgesKept` says of one bridge. -/
def State.BridgeKept (s : State) (br : Bridge) : Prop :=
  (∀ cl : Client, ∀ e, s.slot (bridgeChannel br) cl = some e → e.isDrive = true) ∧
  s.HandedOver (bridgeChannel br) ∧
  ((s.bridge br).st ≠ .idle ↔ (s.chan (bridgeChannel br)).admitted = true)

/-- A bridge whose legs have been dropped: in IDLE or DEAD, with its rest timer running, so that no leg
conducts whatever its IDLE setting (R125). -/
def BridgeRecord.Dropped (r : BridgeRecord) : Prop := r.st ≠ .drive ∧ r.st ≠ .brake ∧ r.rest ≠ none

/-- A bridge's legs stay as they are or fall: where they conducted they are unchanged or dropped, and dropped
legs stay dropped. -/
def LegsFall (br : Bridge) (s t : State) : Prop :=
  (t.legs br = s.legs br ∨ s.legs br = (.off, .off) ∨ (t.bridge br).Dropped) ∧
  ((s.bridge br).Dropped → (t.bridge br).Dropped)

/-- The owner's entry and the owner go together (R117). -/
def State.disown (s : State) (br : Bridge) (cl : Client) : State :=
  (s.setSlot (bridgeChannel br) cl none).setBridge br { s.bridge br with owner := none }

/-- A client becomes or stays the owner with a new entry (R39). -/
def State.own (s : State) (br : Bridge) (cl : Client) (dir : Direction) (duration : Nat) : State :=
  (s.setSlot (bridgeChannel br) cl (some (.drive dir duration false))).setBridge br
    { s.bridge br with owner := some cl }

/-! ### The hand-over without the examination behind it (R43, R56) -/

/-- The state of R14's table is taken without the examination of the queue. -/
def State.startCore (s : State) (ch : Ch) : State :=
  match s.startStateOf ch with
  | .ramping => s.admitChannel ch
  | .waiting => s.place ch
  | _ => s.setChan ch { s.chan ch with st := .suspended }

/-- A hand-over of the combined demand without the examination of the queue. -/
def State.handOver (s : State) (ch : Ch) : State :=
  let d := s.combined ch
  let c := s.chan ch
  if d.duty = c.pending ∧ d.wants = c.wish ∧ d.inhibited = c.inhibited then s
  else
    let s' := s.setChan ch (c.record (typeOf ch) d)
    if d.wants = c.wish then s'
    else if d.wants then (if c.st = .off then s'.startCore ch else s')
    else s'.wishEnds false ch

/-- The owner and its entry go, and the combined demand is handed over (R117). -/
def State.dropOwner (s : State) (br : Bridge) : State :=
  match (s.bridge br).owner with
  | none => s
  | some cl => (s.disown br cl).handOver (bridgeChannel br)

/-! ### Profiles -/

/-- What a write of a profile keeps true of it. -/
structure ProfileKeeps (ch : Ch) (p p' : Profile) : Prop where
  claims : p.rclaim ≤ p.iclaim → p'.rclaim ≤ p'.iclaim
  cls : p.cls ≤ 3 → p'.cls ≤ 3
  rated : p.rated ≤ (typeOf ch).ratedMax → p'.rated ≤ (typeOf ch).ratedMax
  bindDuty : p.bindDuty ≤ 1000 → p'.bindDuty ≤ 1000
  noPeriod : (typeOf ch).periodRange = none → p.period = none → p'.period = none
  period : ∀ range n, (typeOf ch).periodRange = some range → p.period = some n → range.1 ≤ n → n ≤ range.2 →
    ∃ m, p'.period = some m ∧ range.1 ≤ m ∧ m ≤ range.2
  unbound : typeOf ch = .bridge → p.bindInput = none → p'.bindInput = none
  rights : typeOf ch = .bridge →
    (∀ r ∈ [p.rightBody, p.rightEngine, p.rightClimate], r = .none ∨ r = .demand) →
    ∀ r ∈ [p'.rightBody, p'.rightEngine, p'.rightClimate], r = .none ∨ r = .demand

/-! ### Edits -/

/-- The channel's record as it stands, or as a hand-over of changed values has just recorded it. -/
def Told (s : State) (ch : Ch) (c : Channel) : Prop :=
  c = s.chan ch ∨ (¬ s.HandedOver ch ∧ c = (s.chan ch).record (typeOf ch) (s.combined ch))

/-- The two states differ at most in the blocks that no invariant of the channels, the admission units, the
demand table and the bridges reads. -/
def OnlyOther (s t : State) : Prop :=
  t = { s with part := t.part, quiet := t.quiet, restCh := t.restCh, restIn := t.restIn, clients := t.clients
               pins := t.pins, placed := t.placed, mon := t.mon, groups := t.groups, freeIndex := t.freeIndex }

/-- The place and class of each entry of a queue, without its timer. -/
def queueOrder (q : List QueueEntry) : List (Ch × Nat) := q.map fun e => (e.ch, e.cls)

/-- One change of a command `i` that keeps the blocks in agreement. -/
inductive Edit (i : Instr) : State → State → Prop
  /-- Blocks that no other block's invariant reads. -/
  | other {s t : State} (h : OnlyOther s t) : Edit i s t
  /-- Link ports, no queue past its slots (R146). -/
  | ports {s t : State} (h : OnlyPorts s t) (hq : s.QueuesBounded → t.QueuesBounded) : Edit i s t
  /-- An admission unit's hold, counter and ADMIT_DELAY timers. -/
  | unit {s : State} {f : Feed} {u : Admission} (hq : queueOrder u.queue = queueOrder (s.unit f).queue)
      (hs : u.sumS = (s.unit f).sumS) (hr : u.sumR = (s.unit f).sumR)
      (hb : u.peak = (s.unit f).peak ∧ u.cont = (s.unit f).cont) : Edit i s (s.setUnit f u)
  /-- The budgets of a feed whose channels are all OFF (R52). -/
  | budgets {s : State} {f : Feed} {u : Admission} (hq : u.queue = (s.unit f).queue)
      (hs : u.sumS = (s.unit f).sumS) (hr : u.sumR = (s.unit f).sumR)
      (hoff : ∀ ch, feedOf ch = f → (s.chan ch).st = .off) : Edit i s (s.setUnit f u)
  /-- Changed values are recorded where the wish does not act (R12, R13). -/
  | record {s : State} {ch : Ch} (hn : ¬ s.HandedOver ch)
      (hw : (s.combined ch).wants = (s.chan ch).wish ∨
        ((s.combined ch).wants = true ∧ (s.chan ch).wish = false ∧ (s.chan ch).st ≠ .off) ∨
        ((s.combined ch).wants = false ∧
          ((s.chan ch).st = .off ∨ (s.chan ch).st = .tripped ∨ (s.chan ch).st = .locked))) :
      Edit i s (s.setChan ch ((s.chan ch).record (typeOf ch) (s.combined ch)))
  /-- A sample's values are kept (R72, R73). -/
  | sample {s : State} {ch : Ch} {rms : Nat} {onCur : Option Nat} (h : rms ≤ (typeOf ch).fullScale) :
      Edit i s (s.setChan ch ((s.chan ch).takeSample rms onCur))
  /-- Counters, the OPEN flag, the good-run timer with the trip count, the sense interval. -/
  | marks {s : State} {ch : Ch} {low good n : Nat} {open_ conducted : Bool} {goodRun : Option Nat}
      (h : n ≤ (s.chan ch).tripCount) :
      Edit i s (s.setChan ch { s.chan ch with
        lowCount := low, goodCount := good, tripCount := n, openFlag := open_, conducted := conducted
        goodRun := goodRun })
  /-- The sense intervals of all channels begin anew (R163). -/
  | intervals {s : State} : Edit i s { s with chans := mapChannels Channel.wake s.chans }
  /-- A period start is latched (R90). -/
  | period {s : State} {ch : Ch} (ha : (s.chan ch).admitted = true) (ht : (s.chan ch).periodTimer ≠ none) :
      Edit i s (State.startPeriod ch s)
  /-- A channel is cleared (R20). -/
  | cleared {s : State} {ch : Ch} (h : ClearsChannel i ch) : Edit i s (s.setChan ch (s.chan ch).clear)
  /-- A profile is written on an OFF channel, its trip count lowered to RETRIES (R3, R5, R52). -/
  | profile {s : State} {ch : Ch} {p : Profile} {d : Bool} {n : Nat} (hoff : (s.chan ch).st = .off)
      (hp : ProfileKeeps ch (s.chan ch).profile p)
      (hn : n ≤ (s.chan ch).tripCount ∧ (p.retries < n → p.retries = (s.chan ch).profile.retries))
      (hbr : ∀ br, bridgeOf ch = some br → SwitchesOn i br ∨ p.bridge = (s.chan ch).profile.bridge) :
      Edit i s (s.setChan ch { s.chan ch with profile := p, default := d, tripCount := n })
  /-- A channel leaves for OFF with its wish ended, or for SHED or SUSPENDED with its wish (R11, R16, R56). -/
  | leave {s : State} {ch : Ch} {c : Channel} {dest : ChState} (hc : Told s ch c) (hl : c.st ≠ .locked)
      (hd : (dest = .off ∧ c.wish = false) ∨ ((dest = .shed ∨ dest = .suspended) ∧
        (c.wish = true ∨ (c = s.chan ch ∧
          (c.st = .waiting ∨ c.st = .ramping ∨ c.st = .on ∨ c.st = .shed)))))
      (hbr : s.HandedOver ch → bridgeOf ch = none ∨ c.admitted = false) :
      Edit i s ((s.setChan ch c).leaveTo ch dest)
  /-- A channel with a wish is placed in its feed's queue (R54). -/
  | place {s : State} {ch : Ch} {c : Channel} (hc : Told s ch c)
      (hst : c.st = .off ∨ c.st = .tripped ∨ c.st = .shed ∨ c.st = .suspended)
      (hw : c.wish = true ∨ (c = s.chan ch ∧ (c.st = .shed ∨ c.st = .suspended))) (hcls : c.profile.cls ≠ 0) :
      Edit i s ((s.setChan ch c).place ch)
  /-- The class 0 bypass (R62). -/
  | bypass {s : State} {ch : Ch} {c : Channel} (hc : Told s ch c)
      (hst : c.st = .off ∨ c.st = .tripped ∨ c.st = .suspended)
      (hw : c.wish = true ∨ (c = s.chan ch ∧ c.st = .suspended)) (hcls : c.profile.cls = 0) :
      Edit i s ((s.setChan ch c).admitChannel ch)
  /-- The head of a queue fits and is admitted (R59). -/
  | head {s : State} {f : Feed} {e : QueueEntry} {rest : List QueueEntry}
      (hq : (s.unit f).queue = e :: rest) (hfits : s.fits f e = true) :
      Edit i s ((s.setUnit f { s.unit f with queue := rest }).admitChannel e.ch)
  /-- A lamp, heater or fan trips (R18). -/
  | trip {s : State} {ch : Ch} {cause : TripCause} {rms vavg : Nat} (hbr : bridgeOf ch = none)
      (ha : (s.chan ch).admitted = true) :
      Edit i s ((s.releaseClaims ch).setChan ch ((s.chan ch).afterTrip cause rms vavg))
  /-- An inrush window expires (R17, R53). -/
  | window {s : State} {ch : Ch} (h : (s.chan ch).st = .ramping) :
      Edit i s ((s.setChan ch { s.chan ch with st := .on, window := none, goodRun := some 0 }).setUnit (feedOf ch)
        { s.unit (feedOf ch) with sumS := (s.unit (feedOf ch)).sumS -
            ((s.chan ch).profile.iclaim - (s.chan ch).profile.rclaim) })
  /-- An entry that is no DRIVE is put into a slot of a lamp, heater or fan (R38, R46). -/
  | put {s : State} {ch : Ch} {cl : Client} {e : Entry} (he : e.isDrive = false)
      (hbr : s.OwnersKept → bridgeOf ch = none) (hd : s.DutiesInRange → e.fullDuty ≤ 1000) :
      Edit i s (s.setSlot ch cl (some e))
  /-- An entry that is no DRIVE is removed, or restated without a larger duty. -/
  | amend {s : State} {ch : Ch} {cl : Client} {e : Entry} {o : Option Entry} (hs : s.slot ch cl = some e)
      (he : s.OwnersKept → e.isDrive = false)
      (ho : ∀ e', o = some e' → e'.isDrive = false ∧ e'.fullDuty ≤ e.fullDuty) :
      Edit i s (s.setSlot ch cl o)
  /-- The ending mark of a DRIVE entry is set (R121). -/
  | mark {s : State} {ch : Ch} {cl : Client} {dir : Direction} {duration : Nat} {ending : Bool}
      (hs : s.slot ch cl = some (.drive dir duration ending)) :
      Edit i s (s.setSlot ch cl (some (.drive dir duration true)))
  /-- A bridge moves on, in IDLE before and after it or in neither. -/
  | bridge {s : State} {br : Bridge} {r : BridgeRecord} (ho : r.owner = (s.bridge br).owner)
      (hi : r.st = .idle ↔ (s.bridge br).st = .idle) (hl : SwitchesOn i br ∨ LegsFall br s (s.setBridge br r)) :
      Edit i s (s.setBridge br r)
  /-- A soft reset clears the demands (R164). -/
  | clearDemands {s : State} : Edit i s s.clearDemands

/-- The trip of a channel (R18), before its events. -/
def State.tripped (s : State) (ch : Ch) (cause : TripCause) (rms vavg : Nat) : State :=
  (s.releaseClaims ch).setChan ch ((s.chan ch).afterTrip cause rms vavg)

/-- The state from which a drive is over: as it stands, or with the bridge's channel just tripped. -/
def OverFrom (br : Bridge) (s s' : State) : Prop :=
  s' = s ∨ ((s.chan (bridgeChannel br)).admitted = true ∧
    ∃ cause rms vavg, s' = s.tripped (bridgeChannel br) cause rms vavg)

/-- One change of a command `i`: an edit, or one that a bridge, its channel and its owner's entry make
together. -/
inductive Move (i : Instr) : State → State → Prop
  | edit {s t : State} (h : Edit i s t) : Move i s t
  /-- A DRIVE is accepted (R39, R122). -/
  | drive {s : State} {br : Bridge} {cl : Client} {dir : Direction} {duration : Nat} (hw : cl ≠ .wired)
      (ho : (s.bridge br).owner = none ∨ (s.bridge br).owner = some cl) :
      Move i s (((s.own br cl dir duration).driveTaken br dir duration).handOver (bridgeChannel br))
  /-- A drive is over: the bridge is IDLE, its owner's entry gone (R117, R121, R123). -/
  | finish {s s' u : State} {br : Bridge} {r : BridgeRecord} (hs : OverFrom br s s') (hp : OnlyPorts s' u)
      (hq : s'.QueuesBounded → u.QueuesBounded)
      (ho : r.owner = (s.bridge br).owner) (hi : r.st = .idle)
      (hl : s.BridgeKept br → SwitchesOn i br ∨ LegsFall br s (u.setBridge br r)) :
      Move i s ((u.setBridge br r).dropOwner br)

/-- A chain of moves. -/
def Moves (i : Instr) : State → State → Prop := Relation.ReflTransGen (Move i)

theorem Moves.refl (i : Instr) (s : State) : Moves i s s := Relation.ReflTransGen.refl

theorem Moves.trans {i : Instr} {s t u : State} (h : Moves i s t) (k : Moves i t u) : Moves i s u :=
  Relation.ReflTransGen.trans h k

theorem Edit.moves {i : Instr} {s t : State} (h : Edit i s t) : Moves i s t :=
  Relation.ReflTransGen.single (.edit h)

theorem Move.moves {i : Instr} {s t : State} (h : Move i s t) : Moves i s t :=
  Relation.ReflTransGen.single h

end Sys2Proof.Machine
end

section
/-!
PROOF. Every operation that a command is made of is a chain of moves. The order is that of the model's files;
a lemma here only says which moves an operation makes and why their conditions hold where it makes them.
-/
namespace Sys2Proof.Machine

/-! ### Writing back what is there -/

@[simp] theorem State.setChan_chan (s : State) (ch : Ch) : s.setChan ch (s.chan ch) = s := by
  unfold State.setChan State.chan
  have h : s.chans.set ch s.chans[ch] = s.chans := Vector.set_getElem_self ch.isLt
  rw [h]

@[simp] theorem State.setChan_setChan (s : State) (ch : Ch) (c d : Channel) :
    (s.setChan ch c).setChan ch d = s.setChan ch d := by
  unfold State.setChan
  have h : (s.chans.set ch c).set ch d = s.chans.set ch d := Vector.set_set _ _
  exact congrArg (fun v => ({ s with chans := v } : State)) h

theorem told_chan (s : State) (ch : Ch) : Told s ch (s.chan ch) := .inl rfl

/-! ### Chains over lists -/

variable {i : Instr}

theorem moves_overChannels {f : Ch → State → State} (h : ∀ ch s, Moves i s (f ch s)) (s : State)
    (l : List Ch) : Moves i s (s.overChannels f l) :=
  only_overChannels (R := Moves i) (Moves.refl i) Moves.trans h s l

theorem moves_overSlots {f : Ch → Client → State → State} (h : ∀ ch cl s, Moves i s (f ch cl s))
    (s : State) (l : List (Ch × Client)) : Moves i s (s.overSlots f l) :=
  only_overSlots (R := Moves i) (Moves.refl i) Moves.trans h s l

/-- A change applied to distinct channels in turn: what it needs to know of a channel still holds when its
turn comes, because the changes of the others leave it true. -/
theorem moves_overDistinct {P : Ch → State → Prop} {f : Ch → State → State}
    (step : ∀ ch s, P ch s → Moves i s (f ch s))
    (keep : ∀ ch x s, x ≠ ch → P ch s → P x s → P x (f ch s)) :
    ∀ (l : List Ch) (s : State), l.Nodup → (∀ ch ∈ l, P ch s) → Moves i s (s.overChannels f l)
  | [], s, _, _ => .refl i s
  | ch :: l, s, nodup, holds => by
    rw [List.nodup_cons] at nodup
    have first : P ch s := holds ch List.mem_cons_self
    have others : ∀ x ∈ l, P x (f ch s) := fun x mem =>
      keep ch x s (fun e => nodup.1 (e ▸ mem)) first (holds x (List.mem_cons_of_mem _ mem))
    exact (step ch s first).trans (moves_overDistinct step keep l (f ch s) nodup.2 others)

/-! ### Blocks that no invariant reads, and ports -/

theorem OnlyOther.moves {s t : State} (h : OnlyOther s t) : Moves i s t := (Edit.other h).moves

theorem moves_ports {s t : State} (h : OnlyPorts s t) (hq : s.QueuesBounded → t.QueuesBounded) :
    Moves i s t := (Edit.ports h hq).moves

theorem bounded_setPort {s : State} {p : Port} {r : PortRecord}
    (h : (s.port p).queue.length ≤ 12 → r.queue.length ≤ 12) (hs : s.QueuesBounded) :
    (s.setPort p r).QueuesBounded := by
  intro x
  rw [State.port_setPort]
  split
  · exact h (hs p)
  · exact hs x

theorem moves_setPort {s : State} {p : Port} {r : PortRecord}
    (h : (s.port p).queue.length ≤ 12 → r.queue.length ≤ 12) : Moves i s (s.setPort p r) :=
  moves_ports rfl (bounded_setPort h)

theorem PortRecord.offer_length (r : PortRecord) (t : TxFrame) (h : r.queue.length ≤ 12) :
    (r.offer t).queue.length ≤ 12 := by
  unfold PortRecord.offer
  split
  next room => rw [List.length_append]; exact room.2
  next => exact h

theorem PortRecord.offerStatus_length (r : PortRecord) (t : TxFrame) (h : r.queue.length ≤ 12) :
    (r.offerStatus t).queue.length ≤ 12 := by
  unfold PortRecord.offerStatus
  split
  next room => rw [List.length_append]; exact room.2
  next => exact h

/-- An event is offered to each port on its own (R147). -/
theorem State.port_offerEvent (s : State) (e : Event) (p : Port) :
    (s.offerEvent e).port p = (s.port p).offer (s.eventFrame e) := by cases p <;> rfl

theorem bounded_offerEvent {s : State} (e : Event) (h : s.QueuesBounded) : (s.offerEvent e).QueuesBounded := by
  intro p
  rw [State.port_offerEvent]
  exact PortRecord.offer_length _ _ (h p)

theorem moves_offerEvent (s : State) (e : Event) : Moves i s (s.offerEvent e) :=
  moves_ports (only_offerEvent s e) (bounded_offerEvent e)

theorem moves_offerReply (s : State) (p : Port) (kind : Byte) (cl : Client) (code : RefusalCode)
    (b : Byte) : Moves i s (s.offerReply p kind cl code b) :=
  moves_setPort (PortRecord.offer_length _ _)

theorem moves_offerSummary (s : State) (p : Port) : Moves i s (s.offerSummary p) := by
  unfold State.offerSummary
  dsimp only
  split
  next room => exact moves_setPort fun _ => by rw [List.length_append]; exact room.2
  next => exact .refl i s

theorem moves_statusRound (s : State) (p : Port) : Moves i s (s.statusRound p) :=
  (moves_offerSummary s p).trans (foldl_within (R := Moves i) (Moves.refl i) Moves.trans
    (fun _ _ => moves_setPort (PortRecord.offerStatus_length _ _)) _ _)

theorem moves_restartStatus (s : State) (p : Port) : Moves i s (s.restartStatus p) :=
  have started : Moves i s (s.setPort p { s.port p with statusTimer := some 0 }) := moves_setPort fun h => h
  started.trans (moves_statusRound _ p)

theorem moves_checkRead (s : State) (p : Port) : Moves i s (s.checkRead p) := by
  unfold State.checkRead
  dsimp only
  split
  · exact .refl i s
  · split
    next room =>
      refine moves_setPort fun _ => ?_
      have free : 3 ≤ queueSlots - (s.port p).queue.length := room.2
      have three : ∀ ch, (s.detailFrames ch).length = 3 := fun _ => rfl
      rw [List.length_append, three]
      unfold queueSlots at free
      omega
    next => exact .refl i s

theorem moves_departure (s : State) (p : Port) : Moves i s (s.departure p) := by
  unfold State.departure
  dsimp only
  split
  · exact .refl i s
  next head rest hq =>
    split
    · refine (moves_setPort fun h => ?_).trans (moves_checkRead _ _)
      rw [hq, List.length_cons] at h
      exact Nat.le_of_succ_le h
    · exact .refl i s

theorem moves_transmitError (s : State) (p : Port) : Moves i s (s.transmitError p) := by
  unfold State.transmitError
  dsimp only
  split
  · refine moves_setPort fun h => ?_
    split
    · exact Nat.zero_le 12
    · exact h
  · exact .refl i s

theorem moves_recoverPort (s : State) (p : Port) : Moves i s (s.recoverPort p) := by
  have back : Moves i s (s.setPort p { s.port p with st := .active, recovery := none }) :=
    moves_setPort fun h => h
  unfold State.recoverPort
  cases s.part with
  | active => exact back.trans (moves_restartStatus _ p)
  | sleep => exact back

theorem moves_seeActivity (s : State) (p : Port) : Moves i s (s.seeActivity p) := by
  unfold State.seeActivity
  dsimp only
  split
  · exact moves_setPort fun h => h
  · exact .refl i s

/-! ### Examination -/

theorem moves_setUnit {s : State} {f : Feed} {u : Admission}
    (hq : queueOrder u.queue = queueOrder (s.unit f).queue) (hs : u.sumS = (s.unit f).sumS)
    (hr : u.sumR = (s.unit f).sumR) (hb : u.peak = (s.unit f).peak ∧ u.cont = (s.unit f).cont) :
    Moves i s (s.setUnit f u) := (Edit.unit hq hs hr hb).moves

theorem moves_examineHeads (f : Feed) : ∀ (n : Nat) (s : State), Moves i s (State.examineHeads f n s)
  | 0, s => .refl i s
  | n + 1, s => by
    unfold State.examineHeads
    split
    · exact .refl i s
    next e rest hq =>
      split
      next hfits => exact (Edit.head hq hfits).moves.trans (moves_examineHeads f n _)
      next => exact .refl i s

theorem moves_examine (s : State) (f : Feed) : Moves i s (s.examine f) := moves_examineHeads f _ s

/-! ### The hand-over -/

theorem State.startState_cases (fs : FeedState) (cls : Nat) :
    startState fs cls = .suspended ∨ (startState fs cls = .ramping ∧ cls = 0) ∨
      (startState fs cls = .waiting ∧ cls ≠ 0) := by
  unfold startState
  split_ifs <;> simp_all

/-- From OFF, TRIPPED, SHED and SUSPENDED a channel leaves nothing behind. -/
theorem State.leaveTo_of_resting {s : State} {ch : Ch} (dest : ChState)
    (h : (s.chan ch).st ≠ .waiting ∧ (s.chan ch).st ≠ .ramping ∧ (s.chan ch).st ≠ .on) :
    s.leaveTo ch dest = s.setChan ch { s.chan ch with st := dest } := by
  obtain ⟨hw, hr, ho⟩ := h
  unfold State.leaveTo
  dsimp only
  split <;> simp_all

theorem Channel.admitted_iff (c : Channel) : c.admitted = true ↔ c.st = .ramping ∨ c.st = .on := by
  simp [Channel.admitted]

theorem Channel.not_admitted_iff (c : Channel) : c.admitted = false ↔ c.st ≠ .ramping ∧ c.st ≠ .on := by
  simp [Channel.admitted]

/-- A wish that begins in OFF, or that stands as a channel has cooled in TRIPPED (R14, R19). -/
theorem edit_startCore {s : State} {ch : Ch} {c : Channel} (told : Told s ch c)
    (hst : c.st = .off ∨ c.st = .tripped) (hw : c.wish = true) :
    Edit i s ((s.setChan ch c).startCore ch) := by
  unfold State.startCore State.startStateOf
  rw [State.chan_setChan_same]
  rcases State.startState_cases ((s.setChan ch c).monitor (feedOf ch)).st c.profile.cls with
    suspended | ⟨ramping, cls⟩ | ⟨waiting, cls⟩
  · rw [suspended]
    have resting : c.st ≠ .waiting ∧ c.st ≠ .ramping ∧ c.st ≠ .on := by
      rcases hst with h | h <;> simp [h]
    have h : (s.setChan ch c).leaveTo ch .suspended =
        (s.setChan ch c).setChan ch { c with st := .suspended } := by
      rw [State.leaveTo_of_resting _ (by rwa [State.chan_setChan_same]), State.chan_setChan_same]
    dsimp only
    rw [← h]
    refine .leave told (by rcases hst with h | h <;> simp [h]) (.inr ⟨.inr rfl, .inl hw⟩) fun _ => .inr ?_
    exact c.not_admitted_iff.mpr resting.2
  · rw [ramping]
    exact .bypass told (by rcases hst with h | h <;> simp [h]) (.inl hw) cls
  · rw [waiting]
    exact .place told (by rcases hst with h | h <;> simp [h]) (.inl hw) cls

/-- What a hand-over without the examination does: nothing, or one edit. -/
theorem handOver_edit (s : State) (ch : Ch) : s.handOver ch = s ∨ Edit i s (s.handOver ch) := by
  unfold State.handOver
  dsimp only
  split
  · exact .inl rfl
  next changed =>
    right
    have hn : ¬ s.HandedOver ch := fun h => changed ⟨h.1.symm, h.2.1.symm, h.2.2.symm⟩
    have told : Told s ch ((s.chan ch).record (typeOf ch) (s.combined ch)) := .inr ⟨hn, rfl⟩
    split
    next same => exact .record hn (.inl same)
    next differs =>
      split
      next wants =>
        have wish : (s.chan ch).wish = false := by
          rw [wants] at differs; simpa using Ne.symm differs
        split
        next off => exact edit_startCore told (.inl off) wants
        next notOff => exact .record hn (.inr (.inl ⟨wants, wish, notOff⟩))
      next noWants =>
        have noWants : (s.combined ch).wants = false := by simpa using noWants
        unfold State.wishEnds
        rw [State.chan_setChan_same]
        split
        next off => exact .record hn (.inr (.inr ⟨noWants, .inl off⟩))
        next tripped => exact .record hn (.inr (.inr ⟨noWants, .inr (.inl tripped)⟩))
        next locked => exact .record hn (.inr (.inr ⟨noWants, .inr (.inr locked)⟩))
        next notOff notTripped notLocked =>
          exact .leave told notLocked (.inl ⟨rfl, noWants⟩) fun h => absurd h hn

theorem moves_handOver (s : State) (ch : Ch) : Moves i s (s.handOver ch) := by
  rcases handOver_edit (i := i) s ch with h | h
  · rw [h]; exact .refl i s
  · exact h.moves

/-- A start is its core, with the examination where the channel was placed (R54). -/
theorem start_eq (s : State) (ch : Ch) :
    s.start ch = s.startCore ch ∨ s.start ch = (s.startCore ch).examine (feedOf ch) := by
  unfold State.start State.startCore
  cases s.startStateOf ch with
  | waiting => exact .inr rfl
  | _ => exact .inl rfl

theorem wishEnds_eq (s : State) (examined : Bool) (ch : Ch) :
    s.wishEnds examined ch = s.wishEnds false ch ∨
      s.wishEnds examined ch = (s.wishEnds false ch).examine (feedOf ch) := by
  unfold State.wishEnds
  split
  · exact .inl rfl
  · exact .inl rfl
  · exact .inl rfl
  · dsimp only
    split
    · exact .inr rfl
    · exact .inl rfl

/-- A hand-over is the hand-over without the examination, then perhaps the examination (R43, R58). -/
theorem recompute_eq (s : State) (examined : Bool) (ch : Ch) :
    s.recompute examined ch = s.handOver ch ∨
      s.recompute examined ch = (s.handOver ch).examine (feedOf ch) := by
  unfold State.recompute State.handOver
  dsimp only
  split
  · exact .inl rfl
  · split
    · exact .inl rfl
    · split
      · unfold State.wishBegins
        rw [State.chan_setChan_same]
        change (if (s.chan ch).st = .off then _ else _) = _ ∨ (if (s.chan ch).st = .off then _ else _) = _
        split
        · exact start_eq _ ch
        · exact .inl rfl
      · exact wishEnds_eq _ examined ch

theorem moves_examined {s t u : State} {f : Feed} (h : Moves i s t) (k : u = t ∨ u = t.examine f) :
    Moves i s u := by
  rcases k with k | k
  · rw [k]; exact h
  · rw [k]; exact h.trans (moves_examine t f)

theorem moves_recompute (s : State) (examined : Bool) (ch : Ch) :
    Moves i s (s.recompute examined ch) := moves_examined (moves_handOver s ch) (recompute_eq s examined ch)

theorem moves_recomputed (s : State) (ch : Ch) : Moves i s (s.recomputed ch) := moves_recompute s true ch

/-! ### Batches (R55) -/

theorem State.chan_place (s : State) (ch x : Ch) :
    (s.place ch).chan x = if x = ch then { s.chan ch with st := .waiting } else s.chan x := by
  unfold State.place
  exact State.chan_setChan _ _ _ _

theorem allChannels_nodup : allChannels.Nodup := by decide

theorem channelsOf_nodup (f : Feed) : (channelsOf f).Nodup := allChannels_nodup.filter _

theorem mem_channelsOf {f : Feed} {ch : Ch} : ch ∈ channelsOf f ↔ feedOf ch = f := by
  simp [channelsOf, mem_allChannels]

/-- The order of a batch: class 1, 2, 3, ascending within a class. -/
def batchOrder (s : State) (batch : List Ch) : List Ch :=
  [1, 2, 3].flatMap fun k => batch.filter fun ch => (s.chan ch).profile.cls = k

theorem mem_batchOrder {s : State} {batch : List Ch} {ch : Ch} :
    ch ∈ batchOrder s batch ↔ ch ∈ batch ∧ 1 ≤ (s.chan ch).profile.cls ∧ (s.chan ch).profile.cls ≤ 3 := by
  simp only [batchOrder, List.mem_flatMap, List.mem_filter, List.mem_cons, List.not_mem_nil, or_false,
    decide_eq_true_eq]
  constructor
  · rintro ⟨k, rfl | rfl | rfl, mem, cls⟩ <;> exact ⟨mem, by omega, by omega⟩
  · rintro ⟨mem, low, high⟩
    exact ⟨_, by omega, mem, rfl⟩

theorem batchOrder_nodup {s : State} {batch : List Ch} (h : batch.Nodup) : (batchOrder s batch).Nodup := by
  have filtered (k : Nat) : (batch.filter fun ch => (s.chan ch).profile.cls = k).Nodup := h.filter _
  have apart (j k : Nat) (hjk : j ≠ k) :
      List.Disjoint (batch.filter fun ch => decide ((s.chan ch).profile.cls = j))
        (batch.filter fun ch => decide ((s.chan ch).profile.cls = k)) := by
    intro ch hj hk
    simp only [List.mem_filter, decide_eq_true_eq] at hj hk
    exact hjk (hj.2.symm.trans hk.2)
  simp only [batchOrder, List.flatMap_cons, List.flatMap_nil, List.append_nil]
  refine List.Nodup.append (filtered 1) (List.Nodup.append (filtered 2) (filtered 3) (apart 2 3 (by decide))) ?_
  rw [List.disjoint_append_right]
  exact ⟨apart 1 2 (by decide), apart 1 3 (by decide)⟩

/-- A channel that a batch may place: SHED or SUSPENDED, of class 1 to 3. -/
def Placeable (ch : Ch) (s : State) : Prop :=
  ((s.chan ch).st = .shed ∨ (s.chan ch).st = .suspended) ∧ (s.chan ch).profile.cls ≠ 0

theorem moves_placeBatch {s : State} {f : Feed} {batch : List Ch} (nodup : batch.Nodup)
    (h : ∀ ch ∈ batch, (s.chan ch).st = .shed ∨ (s.chan ch).st = .suspended) :
    Moves i s (s.placeBatch f batch) := by
  refine Moves.trans ?_ (moves_examine _ f)
  refine moves_overDistinct (P := Placeable) ?step ?keep (batchOrder s batch) s (batchOrder_nodup nodup) ?holds
  case step =>
    intro ch t ⟨st, cls⟩
    have e : Edit i t ((t.setChan ch (t.chan ch)).place ch) :=
      .place (told_chan t ch) (by rcases st with st | st <;> simp [st])
        (by rcases st with st | st <;> simp [st]) cls
    rw [State.setChan_chan] at e
    exact e.moves
  case keep =>
    intro ch x t hx _ hP
    unfold Placeable
    rw [State.chan_place, if_neg hx]
    exact hP
  case holds =>
    intro ch mem
    obtain ⟨inBatch, low, -⟩ := mem_batchOrder.mp mem
    exact ⟨h ch inBatch, by omega⟩

/-! ### Bridges -/

theorem moves_offerDriveEnd (s : State) (br : Bridge) (cause : DriveCause) (undriven : Bool) :
    Moves i s (s.offerDriveEnd br cause undriven) := by
  unfold State.offerDriveEnd
  dsimp only
  split
  · exact .refl i s
  · exact moves_offerEvent _ _

theorem bounded_offerDriveEnd {s : State} (br : Bridge) (cause : DriveCause) (undriven : Bool)
    (h : s.QueuesBounded) : (s.offerDriveEnd br cause undriven).QueuesBounded := by
  unfold State.offerDriveEnd
  dsimp only
  split
  · exact h
  · exact bounded_offerEvent _ h

theorem moves_markEnding (s : State) (br : Bridge) : Moves i s (s.markEnding br) := by
  unfold State.markEnding State.ownerEntry
  split
  next cl dir duration h =>
    split at h
    · cases h
    next owner ho =>
      split at h
      next d n e hs =>
        cases h
        exact (Edit.mark hs).moves
      next => cases h
  next => exact .refl i s

/-- Removing the owner's entry is dropping owner and entry, then perhaps the examination. -/
theorem removeDrive_eq (s : State) (examined : Bool) (br : Bridge) :
    s.removeDrive examined br = s.dropOwner br ∨
      s.removeDrive examined br = (s.dropOwner br).examine (feedOf (bridgeChannel br)) := by
  unfold State.removeDrive State.dropOwner
  cases (s.bridge br).owner with
  | none => exact .inl rfl
  | some cl => exact recompute_eq (s.disown br cl) examined _

end Sys2Proof.Machine
end

section
/-!
PROOF. The moves of the bridge sequencers, the demand table, the wire protection and the feed monitors.
-/
namespace Sys2Proof.Machine

variable {i : Instr}

/-! ### Legs -/

theorem BridgeRecord.Dropped.legs {s : State} {br : Bridge} (h : (s.bridge br).Dropped) :
    s.legs br = (.off, .off) := by
  obtain ⟨notDrive, notBrake, rest⟩ := h
  unfold State.legs State.lowSidesClosed
  split
  · rfl
  · split <;> simp_all

/-- The legs of a bridge are read from power, stage, direction, IDLE setting and whether the rest timer has
reached its end. -/
theorem legs_congr {s t : State} {br : Bridge} (hp : t.powered = s.powered)
    (hst : (t.bridge br).st = (s.bridge br).st) (hdir : (t.bridge br).dir = (s.bridge br).dir)
    (hrest : (t.bridge br).rest = none ↔ (s.bridge br).rest = none)
    (hidle : (t.bridgeProfile br).idle = (s.bridgeProfile br).idle) : t.legs br = s.legs br := by
  unfold State.legs State.lowSidesClosed
  rw [hp, hst, hdir, hidle]
  simp only [hrest]

theorem legsFall_of_same {s t : State} {br : Bridge} (hp : t.powered = s.powered)
    (hst : (t.bridge br).st = (s.bridge br).st) (hdir : (t.bridge br).dir = (s.bridge br).dir)
    (hrest : (t.bridge br).rest = none ↔ (s.bridge br).rest = none)
    (hidle : (t.bridgeProfile br).idle = (s.bridgeProfile br).idle) : LegsFall br s t := by
  refine ⟨.inl (legs_congr hp hst hdir hrest hidle), ?_⟩
  rintro ⟨notDrive, notBrake, rest⟩
  exact ⟨hst ▸ notDrive, hst ▸ notBrake, mt hrest.mp rest⟩

theorem legs_off_of_no_switch {s : State} {br : Bridge} (h : s.anySwitchOn br = false) :
    s.legs br = (.off, .off) := by
  unfold State.anySwitchOn at h
  unfold State.legs
  split
  · rfl
  · split <;> simp_all

theorem restAfterLegsOff_congr {s t : State} {br : Bridge} (hb : t.bridge br = s.bridge br)
    (hidle : (t.bridgeProfile br).idle = (s.bridgeProfile br).idle) :
    t.restAfterLegsOff br = s.restAfterLegsOff br := by
  unfold State.restAfterLegsOff State.anySwitchOn State.lowSidesClosed
  rw [hb, hidle]

/-- Legs that are switched off with the rest timer of R125 fall. -/
theorem legsFall_of_off {s t : State} {br : Bridge} (hd : (t.bridge br).st ≠ .drive)
    (hb : (t.bridge br).st ≠ .brake) (hrest : (t.bridge br).rest = s.restAfterLegsOff br) :
    LegsFall br s t := by
  unfold State.restAfterLegsOff at hrest
  cases on : s.anySwitchOn br with
  | true =>
    have dropped : (t.bridge br).Dropped := ⟨hd, hb, by rw [hrest, on]; simp⟩
    exact ⟨.inr (.inr dropped), fun _ => dropped⟩
  | false =>
    rw [on] at hrest
    exact ⟨.inr (.inl (legs_off_of_no_switch on)), fun h => ⟨hd, hb, hrest ▸ h.2.2⟩⟩

theorem legsFall_of_dead {s t : State} {br : Bridge} (hs : s.legs br = (.off, .off))
    (ht : (s.bridge br).Dropped → (t.bridge br).Dropped) : LegsFall br s t := ⟨.inr (.inl hs), ht⟩

theorem legs_dead {s : State} {br : Bridge} {stage : DeadStage} (h : (s.bridge br).st = .dead stage) :
    s.legs br = (.off, .off) := by
  unfold State.legs
  rw [h]
  split <;> rfl

/-! ### Bridges -/

theorem OnlyPorts.bridge {s t : State} (h : OnlyPorts s t) (br : Bridge) : t.bridge br = s.bridge br := by
  unfold State.bridge; rw [h.bridges]

theorem OnlyPorts.chan {s t : State} (h : OnlyPorts s t) (ch : Ch) : t.chan ch = s.chan ch := by
  unfold State.chan; rw [h.chans]

theorem OnlyPorts.slot {s t : State} (h : OnlyPorts s t) (ch : Ch) (cl : Client) :
    t.slot ch cl = s.slot ch cl := by
  unfold State.slot; rw [h.demand]

theorem bridge_markEnding (s : State) (br x : Bridge) : (s.markEnding br).bridge x = s.bridge x := by
  unfold State.markEnding
  split <;> rfl

theorem moves_setBridge {s : State} {br : Bridge} {r : BridgeRecord} (ho : r.owner = (s.bridge br).owner)
    (hi : r.st = .idle ↔ (s.bridge br).st = .idle) (hl : SwitchesOn i br ∨ LegsFall br s (s.setBridge br r)) :
    Moves i s (s.setBridge br r) := (Edit.bridge ho hi hl).moves

/-- A bridge's timers, marks and figures move, its stage and its legs stay. -/
theorem moves_setBridge_same {s : State} {br : Bridge} {r : BridgeRecord} (hst : r.st = (s.bridge br).st)
    (hdir : r.dir = (s.bridge br).dir) (ho : r.owner = (s.bridge br).owner)
    (hrest : r.rest = (s.bridge br).rest) : Moves i s (s.setBridge br r) := by
  refine moves_setBridge ho (by rw [hst]) (.inr (legsFall_of_same rfl ?_ ?_ ?_ rfl)) <;>
    rw [State.bridge_setBridge_same]
  · exact hst
  · exact hdir
  · rw [hrest]

theorem moves_endDrive {s : State} {br : Bridge} {cause : DriveCause} (h : (s.bridge br).st = .drive) :
    Moves i s (s.endDrive br cause) := by
  refine ((moves_markEnding s br).trans (moves_offerDriveEnd _ br cause false)).trans ?_
  have same : (((s.markEnding br).offerDriveEnd br cause false).bridge br).st = .drive := by
    rw [(only_offerDriveEnd _ br cause false).bridge, bridge_markEnding, h]
  refine moves_setBridge rfl ?_ (.inr (legsFall_of_off ?_ ?_ ?_)) <;> simp [same]

/-- A drive is over with the channel's state as it stands: the bridge goes IDLE and drops its owner. -/
theorem moves_over {s : State} {br : Bridge} {r : BridgeRecord} (examined : Bool)
    (ho : r.owner = (s.bridge br).owner) (hi : r.st = .idle)
    (hl : s.BridgeKept br → SwitchesOn i br ∨ LegsFall br s (s.setBridge br r)) :
    Moves i s ((s.setBridge br r).removeDrive examined br) :=
  moves_examined (Move.finish (.inl rfl) (OnlyPorts.refl s) (fun h => h) ho hi hl).moves
    (removeDrive_eq _ examined br)

theorem moves_finishDrive {s : State} {br : Bridge}
    (hl : s.BridgeKept br → SwitchesOn i br ∨ (s.bridge br).st = .idle ∨
      (s.bridge br).st = .dead .beforeDrive) : Moves i s (s.finishDrive br) := by
  refine moves_over true rfl rfl fun kept => ?_
  rcases hl kept with switches | idle | dead
  · exact .inl switches
  · refine .inr (legsFall_of_same rfl ?_ ?_ ?_ rfl) <;> simp [idle]
  · refine .inr (legsFall_of_dead (legs_dead dead) fun h => ⟨?_, ?_, ?_⟩)
    · simp
    · simp
    · simpa using h.2.2

theorem moves_dropDrive (s : State) (examined : Bool) (br : Bridge) (cause : DriveCause) :
    Moves i s (s.dropDrive examined br cause) := by
  refine (moves_offerDriveEnd s br cause _).trans (moves_over examined rfl rfl fun _ => .inr ?_)
  exact legsFall_of_off (by simp) (by simp) (by simp)

theorem moves_handedEnd (s : State) (br : Bridge) (cause : DriveCause) :
    Moves i s (s.handedEnd br cause) := by
  have offered (undriven : Bool) := only_offerDriveEnd s br cause undriven
  unfold State.handedEnd
  dsimp only
  split
  next =>
    split
    next drive => exact moves_endDrive drive
    next idle =>
      refine (moves_offerDriveEnd s br cause true).trans (moves_finishDrive fun _ => .inr (.inl ?_))
      rw [(offered true).bridge, idle]
    next dead =>
      refine (moves_offerDriveEnd s br cause true).trans (moves_finishDrive fun _ => .inr (.inr ?_))
      rw [(offered true).bridge, dead]
    next =>
      exact (moves_offerDriveEnd s br cause _).trans (moves_setBridge_same rfl rfl rfl rfl)
  next notAdmitted =>
    refine (moves_offerDriveEnd s br cause true).trans (moves_finishDrive fun kept => .inr (.inl ?_))
    have idle := kept.2.2
    rw [(offered true).chan] at idle
    by_contra h
    exact notAdmitted (idle.mp h)

theorem moves_endEntry (s : State) (ch : Ch) (cl : Client) (cause : DriveCause) :
    Moves i s (s.endEntry ch cl cause) := by
  unfold State.endEntry
  split
  next hs _ => exact (Edit.mark hs).moves.trans (moves_handedEnd _ _ _)
  next => exact .refl i s

theorem moves_storeDriveCurrent (s : State) (br : Bridge) (onCur : Option Nat) :
    Moves i s (s.storeDriveCurrent br onCur) := by
  unfold State.storeDriveCurrent
  split
  · exact moves_setBridge_same rfl rfl rfl rfl
  · exact .refl i s

theorem moves_stallCheck (s : State) (br : Bridge) (onCur : Option Nat) :
    Moves i s (s.stallCheck br onCur) := by
  have counted (n : Nat) : Moves i s (s.setBridge br { s.bridge br with stall := n }) :=
    moves_setBridge_same rfl rfl rfl rfl
  unfold State.stallCheck
  dsimp only
  split
  next drive =>
    split
    · exact (counted _).trans (moves_endDrive (by simpa using drive))
    · exact counted _
  next => exact .refl i s

/-! ### Demand entries and flash groups -/

theorem moves_setGroup (s : State) (g : Group) (r : FlashGroup) : Moves i s (s.setGroup g r) :=
  OnlyOther.moves rfl

theorem Entry.start_fullDuty (e : Entry) : e.start.fullDuty = e.fullDuty := by cases e <;> rfl
theorem Entry.start_isDrive (e : Entry) : e.start.isDrive = e.isDrive := by cases e <;> rfl
theorem Entry.countFlash_fullDuty (e : Entry) : e.countFlash.fullDuty = e.fullDuty := by cases e <;> rfl
theorem Entry.countFlash_isDrive (e : Entry) : e.countFlash.isDrive = e.isDrive := by cases e <;> rfl

theorem Entry.isDrive_of_flashGroup {e : Entry} {g : Group} (h : e.flashGroup = some g) :
    e.isDrive = false := by
  cases e <;> simp_all [Entry.flashGroup, Entry.isDrive]

theorem Entry.isDrive_of_counts {e : Entry} {g : Group} (h : e.counts g = true) : e.isDrive = false := by
  cases e <;> simp_all [Entry.counts, Entry.isDrive]

theorem flashesOn_iff (s : State) (g : Group) (ch : Ch) (cl : Client) :
    s.flashesOn g ch cl = true ↔ ∃ e, s.slot ch cl = some e ∧ e.flashGroup = some g := by
  simp [State.flashesOn, Option.bind_eq_some_iff]

theorem moves_startSlot (g : Group) (ch : Ch) (cl : Client) (s : State) :
    Moves i s (State.startSlot g ch cl s) := by
  unfold State.startSlot
  split
  next flashes =>
    obtain ⟨e, hs, hg⟩ := (flashesOn_iff s g ch cl).mp flashes
    have plain := Entry.isDrive_of_flashGroup hg
    refine (Edit.amend hs (fun _ => plain) fun e' he' => ?_).moves
    rw [hs] at he'
    cases he'
    exact ⟨e.start_isDrive.trans plain, e.start_fullDuty.le⟩
  next => exact .refl i s

theorem moves_handGroup (news : List (Ch × Client)) (g : Group) (s : State) :
    Moves i s (State.handGroup news g s) := by
  unfold State.handGroup
  split
  · exact (moves_setGroup s g _).trans (moves_overSlots (fun ch cl t => moves_startSlot g ch cl t) _ _)
  · exact .refl i s

theorem moves_handFlash (s : State) (news : List (Ch × Client)) : Moves i s (s.handFlash news) :=
  (moves_handGroup news .a s).trans (moves_handGroup news .b _)

theorem moves_recordEntry {s : State} {ch : Ch} {cl : Client} {e : Entry} (he : e.isDrive = false)
    (hbr : s.OwnersKept → bridgeOf ch = none) (hd : e.fullDuty ≤ 1000) :
    Moves i s (s.recordEntry ch cl e) :=
  ((Edit.put he hbr fun _ => hd).moves.trans (moves_handFlash _ _)).trans (moves_recomputed _ _)

theorem moves_removeEntry {s : State} {ch : Ch} {cl : Client}
    (h : ∀ e, s.slot ch cl = some e → s.OwnersKept → e.isDrive = false) :
    Moves i s (s.removeEntry ch cl) := by
  unfold State.removeEntry
  split
  · exact .refl i s
  next e hs => exact (Edit.amend hs (h e hs) (by simp)).moves.trans (moves_recomputed _ _)

theorem Entry.isDrive_iff (e : Entry) : e.isDrive = true ↔ ∃ dir n m, e = .drive dir n m := by
  cases e <;> simp [Entry.isDrive]

theorem moves_releaseEntry (s : State) (cl : Client) (ch : Ch) : Moves i s (s.releaseEntry cl ch) := by
  unfold State.releaseEntry
  split
  next => exact moves_endEntry _ _ _ _
  next notDrive =>
    refine moves_removeEntry fun e hs _ => ?_
    by_contra h
    obtain ⟨dir, n, m, rfl⟩ := e.isDrive_iff.mp (by simpa using h)
    exact notDrive dir n m hs

/-! ### Wired placements -/

theorem bridgeOf_bridgeChannel (br : Bridge) : bridgeOf (bridgeChannel br) = some br := by
  cases br <;> rfl

theorem bridgeOf_eq_some {ch : Ch} {br : Bridge} (h : bridgeOf ch = some br) : ch = bridgeChannel br := by
  revert h br; revert ch; decide

/-- A bridge channel is bound to no input (R8). -/
theorem State.OwnersKept.bridgeOf_of_bound {s : State} (h : s.OwnersKept) {ch : Ch} {w : WiredInput}
    (bound : (s.chan ch).profile.bindInput = some w) : bridgeOf ch = none := by
  cases hb : bridgeOf ch with
  | none => rfl
  | some br =>
    have unbound : (s.chan (bridgeChannel br)).profile.bindInput = none := (h.2 br).2.2.1
    rw [← bridgeOf_eq_some hb, bound] at unbound
    cases unbound

theorem Profile.wiredEntry_isDrive (p : Profile) : p.wiredEntry.isDrive = false := by
  unfold Profile.wiredEntry; split <;> rfl

theorem Profile.wiredEntry_fullDuty (p : Profile) : p.wiredEntry.fullDuty = p.bindDuty := by
  unfold Profile.wiredEntry; split <;> rfl

theorem moves_placeWired (s : State) (w : WiredInput) : Moves i s (s.placeWired w) := by
  unfold State.placeWired
  dsimp only
  refine Moves.trans ?_ (moves_handFlash _ _)
  refine Moves.trans ?_ (OnlyOther.moves rfl)
  refine moves_overDistinct (P := fun ch t => (t.chan ch).profile.bindInput = some w) ?step ?keep _ s
    (allChannels_nodup.filter _) ?holds
  case step =>
    intro ch t bound
    refine (Edit.put (Profile.wiredEntry_isDrive _) (fun owners => owners.bridgeOf_of_bound bound) ?_).moves
    intro duties
    rw [Profile.wiredEntry_fullDuty]
    exact (duties ch).2.2.1
  case keep => exact fun _ _ _ _ _ bound => bound
  case holds =>
    intro ch mem
    simp only [State.boundChannels, List.mem_filter, Bool.and_eq_true, decide_eq_true_eq] at mem
    exact mem.2.1

theorem moves_activateInput (s : State) (w : WiredInput) : Moves i s (s.activateInput w) :=
  (moves_placeWired s w).trans (moves_overChannels (fun ch t => moves_recomputed t ch) _ _)

/-- WIRED never owns a bridge (R39), and a DRIVE entry stands only with its owner. -/
theorem State.OwnersKept.wired_isDrive {s : State} (h : s.OwnersKept) {ch : Ch} {e : Entry}
    (hs : s.slot ch .wired = some e) : e.isDrive = false := by
  cases hb : bridgeOf ch with
  | none => simpa [hs] using h.1 ch .wired hb
  | some br =>
    obtain ⟨entries, notWired, -, -⟩ := h.2 br
    have isDrive := entries .wired
    rw [← bridgeOf_eq_some hb, hs] at isDrive
    simpa [notWired] using isDrive

theorem moves_deactivateInput (s : State) (w : WiredInput) : Moves i s (s.deactivateInput w) := by
  have emptied : Moves i s { s with placed := s.placed.set w [] } := OnlyOther.moves rfl
  refine emptied.trans (moves_overChannels (fun ch t => ?_) _ _)
  exact moves_removeEntry fun e hs owners => owners.wired_isDrive hs

/-! ### Holds and silence -/

theorem moves_endHold (s : State) (f : Feed) (cause : HoldCause) (sender : Option Client) :
    Moves i s (s.endHold f cause sender) := by
  unfold State.endHold
  split
  · exact .refl i s
  · have emptied : Moves i s (s.setUnit f { s.unit f with hold := none }) :=
      moves_setUnit rfl rfl rfl ⟨rfl, rfl⟩
    exact (emptied.trans (moves_offerEvent _ _)).trans (moves_examine _ f)

theorem moves_loseHold (s : State) (cl : Client) (f : Feed) : Moves i s (s.loseHold cl f) := by
  unfold State.loseHold
  split
  · split
    · exact moves_endHold _ _ _ _
    · exact .refl i s
  · exact .refl i s

/-- What R29's table does with an entry: it acts on plain entries, and hands a DRIVE entry's end on. -/
theorem silenceAct_spec (cl : Client) (silence : Option Silence) (o : Option Entry) :
    match silenceAct cl silence o with
    | .nothing => True
    | .remove => ∃ e, o = some e ∧ e.isDrive = false
    | .keepHeld e' => ∃ e, o = some e ∧ e.isDrive = false ∧ e'.isDrive = false ∧ e'.fullDuty = e.fullDuty
    | .endDrive => True := by
  cases o with
  | none => trivial
  | some e =>
    cases e <;> simp only [silenceAct] <;> (try split_ifs) <;> simp [Entry.isDrive, Entry.fullDuty]

theorem moves_silenceEntry (s : State) (cl : Client) (ch : Ch) : Moves i s (s.silenceEntry cl ch) := by
  have spec := silenceAct_spec cl (s.chan ch).profile.silence (s.slot ch cl)
  unfold State.silenceEntry State.silenceActOn
  cases hact : silenceAct cl (s.chan ch).profile.silence (s.slot ch cl) with
  | nothing => exact .refl i s
  | remove =>
    rw [hact] at spec
    obtain ⟨e, hs, plain⟩ := spec
    refine moves_removeEntry fun e' hs' _ => ?_
    rw [hs] at hs'
    cases hs'
    exact plain
  | keepHeld e' =>
    rw [hact] at spec
    obtain ⟨e, hs, plain, plain', duty⟩ := spec
    refine (Edit.amend hs (fun _ => plain) fun e'' h => ?_).moves
    cases h
    exact ⟨plain', duty.le⟩
  | endDrive => exact moves_endEntry _ _ _ _

theorem moves_expireSilence (s : State) (cl : Client) : Moves i s (s.expireSilence cl) := by
  have lost : Moves i s (s.setClient cl { s.client cl with st := .lost, silence := none }) :=
    OnlyOther.moves rfl
  refine Moves.trans ?_ (moves_offerEvent _ _)
  refine Moves.trans ?_ (moves_loseHold _ cl .b)
  refine Moves.trans ?_ (moves_loseHold _ cl .a)
  exact lost.trans (moves_overChannels (fun ch t => moves_silenceEntry t cl ch) _ _)

theorem moves_refresh (s : State) (cl : Client) (p : Port) : Moves i s (s.refresh cl p) := by
  have refreshed : Moves i s (s.setClient cl ((s.client cl).refresh cl p)) := OnlyOther.moves rfl
  unfold State.refresh
  dsimp only
  split
  · exact refreshed.trans (moves_offerEvent _ _)
  · exact refreshed

/-! ### The phases of a group -/

theorem moves_countSlot (g : Group) (ch : Ch) (cl : Client) (s : State) :
    Moves i s (State.countSlot g ch cl s) := by
  unfold State.countSlot
  split
  · exact .refl i s
  next e hs =>
    split
    next counts =>
      have plain := Entry.isDrive_of_counts counts
      dsimp only
      split
      · exact (Edit.amend hs (fun _ => plain) (by simp)).moves.trans (moves_offerEvent _ _)
      · refine (Edit.amend hs (fun _ => plain) fun e' he' => ?_).moves
        cases he'
        exact ⟨e.countFlash_isDrive.trans plain, e.countFlash_fullDuty.le⟩
    next => exact .refl i s

theorem moves_endOnPhase (s : State) (g : Group) : Moves i s (s.endOnPhase g) := by
  refine Moves.trans ?_ (moves_overChannels (fun ch t => moves_recomputed t ch) _ _)
  exact (moves_setGroup s g _).trans (moves_overSlots (fun ch cl t => moves_countSlot g ch cl t) _ _)

theorem moves_endOffPhase (s : State) (g : Group) : Moves i s (s.endOffPhase g) := by
  unfold State.endOffPhase
  split
  · exact moves_setGroup s g _
  · refine Moves.trans ?_ (moves_overChannels (fun ch t => moves_recomputed t ch) _ _)
    refine Moves.trans ?_ (moves_overSlots (fun ch cl t => moves_startSlot g ch cl t) _ _)
    exact (moves_setGroup s g _).trans (moves_setGroup _ g _)

/-! ### Protection -/

theorem moves_marks {s : State} {ch : Ch} {c : Channel}
    (h : c = { s.chan ch with lowCount := c.lowCount, goodCount := c.goodCount, tripCount := c.tripCount
                              openFlag := c.openFlag, conducted := c.conducted, goodRun := c.goodRun })
    (hn : c.tripCount ≤ (s.chan ch).tripCount) : Moves i s (s.setChan ch c) := by
  rw [h]
  exact (Edit.marks hn).moves

theorem moves_openCheck (s : State) (ch : Ch) (onCur : Option Nat) : Moves i s (s.openCheck ch onCur) := by
  have counted (o : Nat) (b : Bool) :
      Moves i s (s.setChan ch { (s.chan ch).countOpen o with openFlag := b }) := by
    unfold Channel.countOpen
    split <;> exact moves_marks rfl le_rfl
  have plain (o : Nat) : Moves i s (s.setChan ch ((s.chan ch).countOpen o)) := by
    unfold Channel.countOpen
    split <;> exact moves_marks rfl le_rfl
  unfold State.openCheck
  dsimp only
  split
  · exact .refl i s
  next o _ =>
    split
    · exact (counted o true).trans (moves_offerEvent _ _)
    · split
      · exact (counted o false).trans (moves_offerEvent _ _)
      · exact plain o

theorem moves_trip {s : State} {ch : Ch} {cause : TripCause} {rms : Nat} {onCur : Option Nat}
    (ha : (s.chan ch).admitted = true) : Moves i s (s.trip ch cause rms onCur) := by
  unfold State.trip
  dsimp only
  refine Moves.trans ?_ (moves_examine _ (feedOf ch))
  set vavg := (s.monitor (feedOf ch)).vavg
  set told : State := ((s.releaseClaims ch).setChan ch ((s.chan ch).afterTrip cause rms vavg)).offerEvent
    (.trip ch cause (tripFromOf (s.chan ch).st) rms onCur ((s.chan ch).afterTrip cause rms vavg).tripCount)
  set locked : State := if ((s.chan ch).afterTrip cause rms vavg).st = .locked then
      told.offerEvent (.lock ch ((s.chan ch).afterTrip cause rms vavg).tripCount (s.chan ch).profile.retries)
    else told
  have only : OnlyPorts (s.tripped ch cause rms vavg) locked := by
    unfold locked; split
    · exact (only_offerEvent _ _).trans (only_offerEvent _ _)
    · exact only_offerEvent _ _
  have bounded : (s.tripped ch cause rms vavg).QueuesBounded → locked.QueuesBounded := by
    intro h
    unfold locked; split
    · exact bounded_offerEvent _ (bounded_offerEvent _ h)
    · exact bounded_offerEvent _ h
  cases hb : bridgeOf ch with
  | none => exact (Edit.trip hb ha).moves.trans (moves_ports only bounded)
  | some br =>
    obtain rfl := bridgeOf_eq_some hb
    have only' := only.trans (only_offerDriveEnd locked br .tripped (locked.bridge br).neverDriven)
    have bounded' : (s.tripped (bridgeChannel br) cause rms vavg).QueuesBounded →
        (locked.offerDriveEnd br .tripped (locked.bridge br).neverDriven).QueuesBounded :=
      fun h => bounded_offerDriveEnd br .tripped (locked.bridge br).neverDriven (bounded h)
    have same := only'.bridge br
    refine moves_examined (Move.finish (.inr ⟨ha, cause, rms, vavg, rfl⟩) only' bounded' ?_ ?_ fun _ => .inr ?_).moves
      (removeDrive_eq _ true br)
    · change (State.bridge _ br).owner = _
      rw [same]
      rfl
    · rfl
    · refine legsFall_of_off (by simp) (by simp) ?_
      rw [State.bridge_setBridge_same]
      refine restAfterLegsOff_congr same ?_
      unfold State.bridgeProfile
      rw [only'.chan, State.tripped, State.chan_setChan_same]
      rfl

theorem moves_coolCheck {s : State} {ch : Ch} (h : (s.chan ch).st = .tripped) :
    Moves i s (s.coolCheck ch) := by
  unfold State.coolCheck
  dsimp only
  split
  · split
    next wish =>
      refine (moves_offerEvent s (.retry ch (s.startStateOf ch) (s.chan ch).tripCount (s.chan ch).q)).trans ?_
      set t := s.offerEvent (.retry ch (s.startStateOf ch) (s.chan ch).tripCount (s.chan ch).q)
      have e : Edit i t ((t.setChan ch (t.chan ch)).startCore ch) :=
        edit_startCore (told_chan t ch) (.inr h) wish
      rw [State.setChan_chan] at e
      exact moves_examined e.moves (start_eq t ch)
    next noWish =>
      have e : Edit i s ((s.setChan ch (s.chan ch)).leaveTo ch .off) :=
        .leave (told_chan s ch) (by simp [h]) (.inl ⟨rfl, by simpa using noWish⟩)
          fun _ => .inr (by simp [Channel.admitted, h])
      rw [State.setChan_chan, State.leaveTo_of_resting _ (by simp [h])] at e
      exact e.moves
  · exact .refl i s

theorem deliveredRms_le (t : ChannelType) (rms : Nat) (onCur : Option Nat) :
    deliveredRms t rms onCur ≤ t.fullScale := by
  unfold deliveredRms
  split
  · exact Nat.zero_le _
  · exact Nat.min_le_left _ _

theorem moves_keepSample {s : State} {ch : Ch} {rms : Nat} {onCur : Option Nat}
    (h : rms ≤ (typeOf ch).fullScale) : Moves i s (s.keepSample ch rms onCur) := by
  have kept : Moves i s (s.setChan ch ((s.chan ch).takeSample rms onCur)) := (Edit.sample h).moves
  unfold State.keepSample
  dsimp only
  split
  · exact kept.trans (moves_storeDriveCurrent _ _ _)
  · exact kept

theorem moves_checkSample (s : State) (ch : Ch) (rms : Nat) (onCur : Option Nat) :
    Moves i s (s.checkSample ch rms onCur) := by
  unfold State.checkSample
  dsimp only
  split
  next ha =>
    split
    · exact moves_trip ha
    · split
      · exact (moves_openCheck _ _ _).trans (moves_stallCheck _ _ _)
      · exact moves_openCheck _ _ _
  next =>
    split
    next tripped => exact moves_coolCheck tripped
    next => exact .refl i s

theorem moves_senseSample (s : State) (ch : Ch) (rms : Nat) (onCur : Option Nat) :
    Moves i s (s.senseSample ch rms onCur) :=
  (moves_keepSample (deliveredRms_le _ _ _)).trans (moves_checkSample _ _ _ _)

end Sys2Proof.Machine
end

section
/-!
PROOF. The moves of the feed monitors and the mode controller, and what the changes of one channel leave of
the others.
-/
namespace Sys2Proof.Machine

variable {i : Instr}

/-! ### What the changes of one channel leave of the others -/

/-- Every channel but one keeps its record, its order stamp excepted (R61). -/
def OthersKept (ch : Ch) (s t : State) : Prop :=
  ∀ x, x ≠ ch → t.chan x = { s.chan x with stamp := (t.chan x).stamp }

theorem OthersKept.of_chans {ch : Ch} {s t : State} (h : t.chans = s.chans) : OthersKept ch s t := by
  intro x _
  have e : t.chan x = s.chan x := by unfold State.chan; rw [h]
  rw [e]

theorem OthersKept.trans {ch : Ch} {s t u : State} (h : OthersKept ch s t) (k : OthersKept ch t u) :
    OthersKept ch s u := by
  intro x hx
  rw [k x hx, h x hx]

theorem othersKept_setChan (s : State) (ch : Ch) (c : Channel) : OthersKept ch s (s.setChan ch c) := by
  intro x hx
  rw [State.chan_setChan, if_neg hx]

/-- A renumbering touches no channel's record but its stamp (R61). -/
theorem chan_renumber (s : State) (f : Feed) (x : Ch) :
    (s.renumber f).chan x = { s.chan x with stamp := ((s.renumber f).chan x).stamp } := by
  have fold : ∀ (l : List Ch) (t : State), (∀ y, t.chan y = { s.chan y with stamp := (t.chan y).stamp }) →
      ∀ y, (t.overChannels (fun ch t => t.setChan ch { t.chan ch with stamp := some (s.renumbered f ch) })
          l).chan y =
        { s.chan y with stamp := ((t.overChannels (fun ch t => t.setChan ch { t.chan ch with
          stamp := some (s.renumbered f ch) }) l).chan y).stamp } := by
    intro l
    induction l with
    | nil => exact fun t h => h
    | cons ch l ih =>
      intro t h
      refine ih _ fun y => ?_
      rw [State.chan_setChan]
      split
      next e => subst e; rw [h y]
      next => exact h y
  exact fold _ s (fun _ => rfl) x

theorem chan_countAdmission (s : State) (f : Feed) (x : Ch) :
    (s.countAdmission f).chan x = { s.chan x with stamp := ((s.countAdmission f).chan x).stamp } := by
  unfold State.countAdmission
  dsimp only
  split
  · rfl
  · exact chan_renumber s f x

theorem othersKept_enterRamping (s : State) (ch : Ch) (n : Nat) : OthersKept ch s (s.enterRamping ch n) := by
  unfold State.enterRamping
  dsimp only
  split
  · exact (othersKept_setChan s ch _).trans (.of_chans rfl)
  · exact othersKept_setChan s ch _

theorem othersKept_admitChannel (s : State) (ch : Ch) : OthersKept ch s (s.admitChannel ch) := by
  refine OthersKept.trans ?_ (othersKept_enterRamping _ _ _)
  exact fun x _ => chan_countAdmission (s.addClaims ch) (feedOf ch) x

theorem othersKept_place (s : State) (ch : Ch) : OthersKept ch s (s.place ch) := by
  intro x hx
  rw [State.chan_place, if_neg hx]

theorem othersKept_leaveTo (s : State) (ch : Ch) (dest : ChState) : OthersKept ch s (s.leaveTo ch dest) := by
  unfold State.leaveTo
  dsimp only
  split
  · exact (OthersKept.of_chans (t := s.dequeue ch) rfl).trans (othersKept_setChan _ ch _)
  · exact (OthersKept.of_chans (t := s.releaseClaims ch) rfl).trans (othersKept_setChan _ ch _)
  · exact (OthersKept.of_chans (t := s.releaseClaims ch) rfl).trans (othersKept_setChan _ ch _)
  · exact othersKept_setChan s ch _

theorem othersKept_startCore (s : State) (ch : Ch) : OthersKept ch s (s.startCore ch) := by
  unfold State.startCore
  split
  · exact othersKept_admitChannel s ch
  · exact othersKept_place s ch
  · exact othersKept_setChan s ch _

theorem othersKept_handOver (s : State) (ch : Ch) : OthersKept ch s (s.handOver ch) := by
  have told := othersKept_setChan s ch ((s.chan ch).record (typeOf ch) (s.combined ch))
  unfold State.handOver State.wishEnds
  dsimp only
  split
  · exact .of_chans rfl
  · split
    · exact told
    · split
      · split
        · exact told.trans (othersKept_startCore _ ch)
        · exact told
      · split
        · exact told
        · exact told
        · exact told
        · exact told.trans (othersKept_leaveTo _ ch .off)

/-! ### An admission and an examination, by the states of the channels -/

theorem Channel.enterRamping_st (t : ChannelType) (vavg n : Nat) (c : Channel) :
    (c.enterRamping t vavg n).st = .ramping := by
  unfold Channel.enterRamping
  dsimp only
  split <;> rfl

theorem st_enterRamping_same (s : State) (ch : Ch) (n : Nat) :
    ((s.enterRamping ch n).chan ch).st = .ramping := by
  have entered := Channel.enterRamping_st (typeOf ch) (s.monitor (feedOf ch)).vavg n (s.chan ch)
  unfold State.enterRamping
  dsimp only
  split <;> simpa [State.startBridge] using entered

/-- An admission takes its channel to RAMPING and no other anywhere (R15). -/
theorem st_admitChannel (s : State) (ch x : Ch) :
    ((s.admitChannel ch).chan x).st = if x = ch then .ramping else (s.chan x).st := by
  split
  next e => subst e; exact st_enterRamping_same _ _ _
  next hx => rw [othersKept_admitChannel s ch x hx]

/-- An examination takes channels to RAMPING alone (R59). -/
theorem st_examine (s : State) (f : Feed) (x : Ch) :
    ((s.examine f).chan x).st = (s.chan x).st ∨ ((s.examine f).chan x).st = .ramping := by
  have heads : ∀ (n : Nat) (t : State), ((State.examineHeads f n t).chan x).st = (t.chan x).st ∨
      ((State.examineHeads f n t).chan x).st = .ramping := by
    intro n
    induction n with
    | zero => exact fun t => .inl rfl
    | succ n ih =>
      intro t
      unfold State.examineHeads
      split
      · exact .inl rfl
      next e rest _ =>
        split
        next =>
          rcases ih ((t.setUnit f { t.unit f with queue := rest }).admitChannel e.ch) with same | ramping
          · rw [same, st_admitChannel]
            split
            · exact .inr rfl
            · exact .inl rfl
          · exact .inr ramping
        next => exact .inl rfl
  exact heads _ s

/-- A hand-over takes another channel to RAMPING or nowhere. -/
theorem st_recompute_other (s : State) (examined : Bool) {ch x : Ch} (hx : x ≠ ch) :
    ((s.recompute examined ch).chan x).st = (s.chan x).st ∨
      ((s.recompute examined ch).chan x).st = .ramping := by
  have core : ((s.handOver ch).chan x).st = (s.chan x).st := by rw [othersKept_handOver s ch x hx]
  rcases recompute_eq s examined ch with h | h
  · rw [h]; exact .inl core
  · rw [h, ← core]; exact st_examine _ _ x

/-! ### Feeds -/

theorem moves_setMonitor (s : State) (f : Feed) (m : Monitor) : Moves i s (s.setMonitor f m) :=
  OnlyOther.moves rfl

theorem latestOf_mem {s : State} {l : List Ch} {ch : Ch} (h : latestOf s l = some ch) : ch ∈ l := by
  induction l with
  | nil => cases h
  | cons x rest ih =>
    unfold latestOf at h
    split at h
    next => cases h; exact List.mem_cons_self
    next y hy =>
      split at h
      · cases h; exact List.mem_cons_of_mem _ (ih hy)
      · cases h; exact List.mem_cons_self

theorem victim_admitted {s : State} {f : Feed} {ch : Ch} (h : s.victim f = some ch) :
    feedOf ch = f ∧ (s.chan ch).admitted = true := by
  have candidate : ∀ cls, latestOf s (s.candidates f cls) = some ch →
      feedOf ch = f ∧ (s.chan ch).admitted = true := by
    intro cls hc
    have mem := latestOf_mem hc
    simp only [State.candidates, State.admittedOf, List.mem_filter, mem_channelsOf] at mem
    exact mem.1
  unfold State.victim at h
  split at h
  next hc => cases h; exact candidate 3 hc
  next => exact candidate 2 h

theorem moves_leave_wanting {s : State} {ch : Ch} {dest : ChState} (hd : dest = .shed ∨ dest = .suspended)
    (hb : bridgeOf ch = none) (hst : (s.chan ch).st = .waiting ∨ (s.chan ch).st = .ramping ∨
      (s.chan ch).st = .on ∨ (s.chan ch).st = .shed) : Moves i s (s.leaveTo ch dest) := by
  have e : Edit i s ((s.setChan ch (s.chan ch)).leaveTo ch dest) :=
    .leave (told_chan s ch) (by rcases hst with h | h | h | h <;> simp [h]) (.inr ⟨hd, .inr ⟨rfl, hst⟩⟩)
      fun _ => .inl hb
  rw [State.setChan_chan] at e
  exact e.moves

/-- A channel on which a feed's change to CUT or SURGE acts (R132, R133). -/
def Suspendable (ch : Ch) (s : State) : Prop :=
  bridgeOf ch = none → (s.chan ch).st = .waiting ∨ (s.chan ch).st = .ramping ∨ (s.chan ch).st = .on ∨
    (s.chan ch).st = .shed

theorem moves_suspend {s : State} {ch : Ch} (h : Suspendable ch s) : Moves i s (s.suspend ch) := by
  unfold State.suspend
  split
  · exact moves_dropDrive _ _ _ _
  next hb => exact moves_leave_wanting (.inr rfl) hb (h hb)

theorem Suspendable.suspend {s : State} {ch x : Ch} (hx : x ≠ ch) (h : Suspendable x s) :
    Suspendable x (s.suspend ch) := by
  intro hb
  have stands := h hb
  unfold State.suspend
  split
  next br hbr =>
    have hx' : x ≠ bridgeChannel br := bridgeOf_eq_some hbr ▸ hx
    have offered : ∀ undriven, ((s.offerDriveEnd br .supply undriven).chan x).st = (s.chan x).st :=
      fun undriven => by rw [(only_offerDriveEnd s br .supply undriven).chan]
    unfold State.dropDrive State.removeDrive
    dsimp only
    split
    · rw [← offered (s.bridge br).neverDriven] at stands
      exact stands
    · rcases st_recompute_other _ false hx' with same | ramping
      · rw [same, State.chan_setBridge, State.chan_setSlot]
        rw [← offered (s.bridge br).neverDriven] at stands
        exact stands
      · exact .inr (.inl ramping)
  next => rw [othersKept_leaveTo s ch .suspended x hx]; exact stands

theorem moves_suspendAll {s : State} {l : List Ch} (nodup : l.Nodup) (h : ∀ ch ∈ l, Suspendable ch s) :
    Moves i s (s.overChannels (fun ch t => t.suspend ch) l) :=
  moves_overDistinct (P := Suspendable) (fun _ _ => moves_suspend) (fun _ _ _ hx _ => .suspend hx) l s
    nodup h

theorem moves_shedChannel {s : State} {f : Feed} {cause : ShedCause} {ch : Ch}
    (ha : (s.chan ch).admitted = true) : Moves i s (s.shedChannel f cause ch) := by
  have zeroed : Moves i s (s.zeroRestore f) := moves_setMonitor s f _
  unfold State.shedChannel
  dsimp only
  refine Moves.trans ?_ (moves_examine _ f)
  split
  · exact (zeroed.trans (moves_offerEvent _ _)).trans (moves_dropDrive _ _ _ _)
  next hb =>
    refine (zeroed.trans (moves_offerEvent _ _)).trans (moves_leave_wanting (.inl rfl) hb ?_)
    rcases (Channel.admitted_iff _).mp ha with h | h
    · exact .inr (.inl h)
    · exact .inr (.inr (.inl h))

theorem moves_shedOne (s : State) (f : Feed) (cause : ShedCause) : Moves i s (s.shedOne f cause) := by
  unfold State.shedOne
  split
  next hv => exact moves_shedChannel (victim_admitted hv).2
  next => exact .refl i s

theorem suspendedChannels_nodup (s : State) (f : Feed) : (s.suspendedChannels f).Nodup :=
  (channelsOf_nodup f).filter _

theorem mem_suspendedChannels {s : State} {f : Feed} {ch : Ch} :
    ch ∈ s.suspendedChannels f ↔ feedOf ch = f ∧ (s.chan ch).st = .suspended := by
  simp [State.suspendedChannels, mem_channelsOf]

theorem moves_resume (s : State) (f : Feed) : Moves i s (s.resume f) := by
  have bypass : ∀ ch t, ((t.chan ch).st = .suspended ∧ (t.chan ch).profile.cls = 0) →
      Moves i t (t.admitChannel ch) := by
    intro ch t ⟨st, cls⟩
    have e : Edit i t ((t.setChan ch (t.chan ch)).admitChannel ch) :=
      .bypass (told_chan t ch) (.inr (.inr st)) (.inr ⟨rfl, st⟩) cls
    rw [State.setChan_chan] at e
    exact e.moves
  set zero := (s.suspendedChannels f).filter fun ch => decide ((s.chan ch).profile.cls = 0) with hzero
  have nodup := suspendedChannels_nodup s f
  have kept : ∀ (l : List Ch) (t : State) (x : Ch), x ∉ l →
      ((t.overChannels (fun ch t => t.admitChannel ch) l).chan x).st = (t.chan x).st := by
    intro l
    induction l with
    | nil => exact fun _ _ _ => rfl
    | cons ch l ih =>
      intro t x hx
      rw [List.mem_cons, not_or] at hx
      exact (ih (t.admitChannel ch) x hx.2).trans (by rw [st_admitChannel, if_neg hx.1])
  refine Moves.trans (t := s.overChannels (fun ch t => t.admitChannel ch) zero) ?_ ?_
  · refine moves_overDistinct (P := fun ch t => (t.chan ch).st = .suspended ∧ (t.chan ch).profile.cls = 0)
      bypass ?_ zero s (nodup.filter _) ?_
    · intro ch x t hx _ hP
      rw [othersKept_admitChannel t ch x hx]
      exact hP
    · intro ch mem
      simp only [hzero, List.mem_filter, mem_suspendedChannels, decide_eq_true_eq] at mem
      exact ⟨mem.1.2, mem.2⟩
  · refine moves_placeBatch (nodup.filter _) fun ch mem => .inr ?_
    simp only [List.mem_filter, mem_suspendedChannels, decide_eq_true_eq] at mem
    rw [kept zero s ch fun h => mem.2 (by simpa [hzero] using (List.mem_filter.mp h).2), mem.1.2]

theorem moves_actOnChange (s : State) (f : Feed) (new : FeedState) : Moves i s (s.actOnChange f new) := by
  unfold State.actOnChange
  split
  · refine moves_suspendAll ((channelsOf_nodup f).filter _) fun ch mem hb => ?_
    have notBridge : typeOf ch ≠ .bridge := by revert hb; clear mem; revert ch; decide
    have acts := (List.mem_filter.mp mem).2
    revert acts
    cases (s.chan ch).st <;> simp [cutActs, notBridge]
  · refine moves_suspendAll ((channelsOf_nodup f).filter _) fun ch mem _ => ?_
    have acts := (List.mem_filter.mp mem).2
    revert acts
    cases (s.chan ch).st <;> simp [surgeActs]
  · exact moves_shedOne s f .low
  · exact moves_resume s f

theorem moves_changeFeed (s : State) (f : Feed) (new : FeedState) : Moves i s (s.changeFeed f new) := by
  refine Moves.trans ?_ (moves_examine _ f)
  exact ((moves_setMonitor s f _).trans (moves_offerEvent _ _)).trans (moves_actOnChange _ f new)

theorem moves_overloadCheck (s : State) (f : Feed) : Moves i s (s.overloadCheck f) := by
  unfold State.overloadCheck
  split
  · exact (moves_shedOne s f .overload).trans (moves_setMonitor _ f _)
  · exact .refl i s

theorem moves_restoreShed (s : State) (f : Feed) : Moves i s (s.restoreShed f) := by
  unfold State.restoreShed
  dsimp only
  split
  · exact moves_setMonitor s f _
  · have placed : Moves i s (s.placeBatch f (s.shedChannels f)) := by
      refine moves_placeBatch ((channelsOf_nodup f).filter _) fun ch mem => .inl ?_
      simpa using (List.mem_filter.mp mem).2
    exact (placed.trans (moves_offerEvent _ _)).trans (moves_setMonitor _ f _)

theorem moves_advanceRestore (s : State) (f : Feed) : Moves i s (s.advanceRestore f) := by
  unfold State.advanceRestore
  dsimp only
  split
  · exact .refl i s
  · split
    · exact .refl i s
    · split
      · exact moves_setMonitor s f _
      · split
        · exact moves_restoreShed s f
        · exact moves_setMonitor s f _

theorem moves_feedSample (s : State) (f : Feed) (v c : Nat) : Moves i s (s.feedSample f v c) := by
  have taken : Moves i s (s.takeFeedSample f v c) := moves_setMonitor s f _
  unfold State.feedSample
  dsimp only
  split
  · exact taken.trans (moves_changeFeed _ f _)
  · exact (taken.trans (moves_overloadCheck _ f)).trans (moves_advanceRestore _ f)

/-! ### Sleep, wake and soft reset -/

theorem moves_enterSleep (s : State) : Moves i s s.enterSleep := by
  have clients : Moves i s { s with part := .sleep, quiet := none, mon := s.mon.map Monitor.sleep
                                    clients := s.clients.map ClientRecord.sleep } := OnlyOther.moves rfl
  set t := ({ s with part := .sleep, quiet := none, mon := s.mon.map Monitor.sleep
                     clients := s.clients.map ClientRecord.sleep } : State)
  have holdA : Moves i t (t.setUnit .a (t.unit .a).sleep) := moves_setUnit rfl rfl rfl ⟨rfl, rfl⟩
  set u := t.setUnit .a (t.unit .a).sleep
  have holdB : Moves i u (u.setUnit .b (u.unit .b).sleep) := moves_setUnit rfl rfl rfl ⟨rfl, rfl⟩
  refine ((clients.trans holdA).trans holdB).trans (moves_ports (t := s.enterSleep) rfl fun h p => ?_)
  have queue : (s.enterSleep.port p).queue = (s.port p).queue := by cases p <;> rfl
  rw [queue]
  exact h p

theorem moves_settle {s : State} (before : State) : Moves i s (State.settle before s) := by
  have handed : Moves i s s.handRest := OnlyOther.moves rfl
  unfold State.settle
  dsimp only
  split
  · exact handed.trans (moves_enterSleep _)
  · exact handed

theorem moves_wakePort (s : State) (p : Port) : Moves i s (s.wakePort p) := by
  unfold State.wakePort
  split
  · exact moves_restartStatus s p
  · exact .refl i s

theorem moves_wakeUp (s : State) : Moves i s s.wakeUp := by
  have blocks : Moves i s { s with part := .active, quiet := some 0, mon := s.mon.map Monitor.wake
                                   clients := wakeClients s.clients } := OnlyOther.moves rfl
  refine Moves.trans ?_ (moves_wakePort _ .b)
  refine Moves.trans ?_ (moves_wakePort _ .a)
  exact blocks.trans Edit.intervals.moves

theorem moves_awake (s : State) : Moves i s s.awake := by
  unfold State.awake
  split
  · exact .refl i s
  · exact moves_wakeUp s

theorem moves_replaceInput (s : State) (w : WiredInput) : Moves i s (s.replaceInput w) := by
  unfold State.replaceInput
  split
  · exact moves_activateInput s w
  · exact .refl i s

theorem moves_softReset (s : State) (p : Port) : Moves i s (s.softReset p) := by
  refine Moves.trans ?_ (moves_replaceInput _ .reverse)
  refine Moves.trans ?_ (moves_replaceInput _ .hazard)
  refine Moves.trans ?_ (moves_replaceInput _ .brake)
  exact Edit.clearDemands.moves.trans (moves_offerEvent _ _)

theorem moves_inputChange (s : State) (activates deactivates : Bool) (w : WiredInput) :
    Moves i s (s.inputChange activates deactivates w) := by
  unfold State.inputChange
  split
  · exact moves_activateInput s w
  · split
    · exact moves_deactivateInput s w
    · exact .refl i s

theorem moves_wiredSample (s : State) (l : PinLevels) : Moves i s (s.wiredSample l) := by
  have sampled : Moves i s (s.samplePins l) := OnlyOther.moves rfl
  have woken : Moves i s (if s.anyActivates l then (s.samplePins l).awake else s.samplePins l) := by
    split
    · exact sampled.trans (moves_awake _)
    · exact sampled
  refine Moves.trans ?_ (moves_inputChange _ _ _ .reverse)
  refine Moves.trans ?_ (moves_inputChange _ _ _ .hazard)
  exact woken.trans (moves_inputChange _ _ _ .brake)

end Sys2Proof.Machine
end

section
/-!
PROOF. The moves of the request commands, of the events and of a step.
-/
namespace Sys2Proof.Machine

variable {i : Instr}

/-! ### What bytes name -/

theorem channelOfByte_eq_some {b : Byte} {ch : Ch} : channelOfByte b = some ch ↔ NamesChannel b ch := by
  unfold channelOfByte NamesChannel
  split
  next h => simp only [Option.some.injEq, Fin.ext_iff]
  next h => simp only [reduceCtorEq, false_iff]; omega

theorem channelOfByte_eq_none {b : Byte} : channelOfByte b = none ↔ 16 ≤ b.toNat := by
  unfold channelOfByte
  split <;> simp <;> omega

theorem sideOfByte_eq_some {b : Byte} {x : Side} : sideOfByte b = some x ↔ NamesSide b x := by
  unfold sideOfByte NamesSide
  cases x <;> split_ifs <;> simp [Side.code] <;> omega

theorem sideOfByte_eq_none {b : Byte} : sideOfByte b = none ↔ 2 ≤ b.toNat := by
  unfold sideOfByte
  split_ifs <;> simp <;> omega

/-! ### Verdicts -/

/-- An accepted verdict is reached by moves. -/
def VerdictMoves (i : Instr) (s : State) (v : Verdict) : Prop := ∀ t, v = .accept t → Moves i s t

theorem verdict_accept {s t : State} (h : Moves i s t) : VerdictMoves i s (.accept t) := by
  rintro _ ⟨⟩; exact h

theorem verdict_refuse (s : State) (code : RefusalCode) : VerdictMoves i s (.refuse code) := by
  rintro _ ⟨⟩

theorem verdict_check {s : State} {ok : Bool} {code : RefusalCode} {v : Verdict}
    (h : ok = true → VerdictMoves i s v) : VerdictMoves i s (check ok code v) := by
  unfold check
  split
  next hok => exact h hok
  next => exact verdict_refuse s code

theorem verdict_onChannel {s : State} {b : Byte} {k : Ch → Verdict}
    (h : ∀ ch, NamesChannel b ch → VerdictMoves i s (k ch)) : VerdictMoves i s (onChannel b k) := by
  unfold onChannel
  split
  next ch hch => exact h ch (channelOfByte_eq_some.mp hch)
  next => exact verdict_refuse s _

theorem verdict_side {s : State} {b : Byte} {k : Side → Verdict}
    (h : ∀ x, VerdictMoves i s (k x)) :
    VerdictMoves i s (match sideOfByte b with
      | none => .refuse .badTarget
      | some x => k x) := by
  split
  · exact verdict_refuse s _
  · exact h _

theorem moves_noteAccepted (s : State) : Moves i s s.noteAccepted := OnlyOther.moves rfl

theorem moves_judge {src : Source} {kind byte1 : Byte} {judgement : State → Verdict} {s : State}
    (h : VerdictMoves i s (judgement s)) : Moves i s (State.judge src kind byte1 judgement s) := by
  unfold State.judge
  split
  next t ht => exact (h t ht).trans (moves_noteAccepted t)
  next => exact moves_offerReply _ _ _ _ _ _

theorem moves_takeFrame {src : Source} {judged : State → State} {s : State}
    (h : ∀ t, Moves i t (judged t)) : Moves i s (State.takeFrame src judged s) := by
  unfold State.takeFrame
  split
  · exact moves_seeActivity s _
  · split
    · exact .refl i s
    · dsimp only
      split
      · exact ((moves_awake s).trans (moves_refresh _ _ _)).trans (h _)
      · exact moves_awake s

theorem moves_request {src : Source} {kind byte1 : Byte} {judgement : State → Verdict} {s : State}
    (h : ∀ t, VerdictMoves i t (judgement t)) : Moves i s (State.request src kind byte1 judgement s) :=
  moves_takeFrame fun t => moves_judge (h t)

/-! ### Channel requests -/

theorem bridgeOf_of_not_bridge {ch : Ch} (h : typeOf ch ≠ .bridge) : bridgeOf ch = none := by
  revert h; revert ch; decide

theorem dutyRecorded_le (d : Half) : dutyRecorded d ≤ 1000 := Nat.min_le_left _ _

theorem verdict_setSteady (cl : Client) (b : Byte) (d : Half) (s : State) :
    VerdictMoves i s (judgeSetSteady cl b d s) := by
  refine verdict_onChannel fun ch _ => verdict_check fun ht => verdict_check fun _ => verdict_accept ?_
  split
  · exact moves_releaseEntry s cl ch
  · exact moves_recordEntry rfl (fun _ => bridgeOf_of_not_bridge (by simpa using ht)) (dutyRecorded_le d)

theorem verdict_setTimed (cl : Client) (b : Byte) (d n : Half) (s : State) :
    VerdictMoves i s (judgeSetTimed cl b d n s) := by
  refine verdict_onChannel fun ch _ => verdict_check fun ht => verdict_check fun _ => verdict_accept ?_
  exact moves_recordEntry rfl (fun _ => bridgeOf_of_not_bridge (by simpa using ht)) (dutyRecorded_le d)

theorem verdict_setFlash (cl : Client) (b : Byte) (d : Half) (g n : Byte) (s : State) :
    VerdictMoves i s (judgeSetFlash cl b d g n s) := by
  refine verdict_onChannel fun ch _ => verdict_check fun ht => ?_
  split
  · exact verdict_refuse s _
  · refine verdict_check fun _ => verdict_accept (moves_recordEntry rfl (fun _ => ?_) (dutyRecorded_le d))
    have lamp : typeOf ch = .lamp := by simpa using ht
    exact bridgeOf_of_not_bridge (by simp [lamp])

/-- A bridge channel gives no INHIBIT right (R8). -/
theorem State.OwnersKept.bridgeOf_of_inhibit {s : State} (h : s.OwnersKept) {ch : Ch} {cl : Client}
    (hi : (s.chan ch).profile.allowsInhibit cl = true) : bridgeOf ch = none := by
  cases hb : bridgeOf ch with
  | none => rfl
  | some br =>
    have rights := (h.2 br).2.2.2
    rw [← bridgeOf_eq_some hb] at rights
    simp only [List.mem_cons, List.not_mem_nil, or_false, forall_eq_or_imp, forall_eq] at rights
    obtain ⟨body, engine, climate⟩ := rights
    cases cl with
    | wired => cases hi
    | service => cases hi
    | body => rcases body with e | e <;> simp [Profile.allowsInhibit, Profile.rightOf, e, Right.mayInhibit] at hi
    | engine =>
      rcases engine with e | e <;> simp [Profile.allowsInhibit, Profile.rightOf, e, Right.mayInhibit] at hi
    | climate =>
      rcases climate with e | e <;> simp [Profile.allowsInhibit, Profile.rightOf, e, Right.mayInhibit] at hi

theorem verdict_setInhibit (cl : Client) (b : Byte) (s : State) :
    VerdictMoves i s (judgeSetInhibit cl b s) := by
  refine verdict_onChannel fun ch _ => verdict_check fun hi => verdict_accept ?_
  exact moves_recordEntry rfl (fun owners => owners.bridgeOf_of_inhibit hi) (Nat.zero_le _)

theorem allowsDemand_wired (p : Profile) : p.allowsDemand .wired = false := rfl

theorem moves_acceptDrive {s : State} {br : Bridge} {cl : Client} {dir : Direction} {n : Nat}
    (hw : cl ≠ .wired) (ho : (s.bridge br).owner = none ∨ (s.bridge br).owner = some cl) :
    Moves i s (s.acceptDrive br cl dir n) :=
  moves_examined (Move.drive hw ho).moves
    (recompute_eq ((s.own br cl dir n).driveTaken br dir n) true (bridgeChannel br))

theorem ownedByOther_eq_false {r : BridgeRecord} {cl : Client} :
    r.ownedByOther cl = false ↔ r.owner = none ∨ r.owner = some cl := by
  unfold BridgeRecord.ownedByOther
  cases r.owner <;> simp

theorem verdict_drive (cl : Client) (b d : Byte) (n : Half) (s : State) :
    VerdictMoves i s (judgeDrive cl b d n s) := by
  refine verdict_onChannel fun ch _ => ?_
  split
  · exact verdict_refuse s _
  · refine verdict_check fun hr => verdict_check fun ho => verdict_accept (moves_acceptDrive ?_ ?_)
    · rintro rfl
      rw [allowsDemand_wired] at hr
      cases hr
    · exact ownedByOther_eq_false.mp (by simpa using ho)

theorem verdict_release (cl : Client) (b : Byte) (s : State) : VerdictMoves i s (judgeRelease cl b s) := by
  unfold judgeRelease
  split
  · exact verdict_accept (moves_overChannels (fun ch t => moves_releaseEntry t cl ch) s _)
  · exact verdict_onChannel fun ch _ => verdict_accept (moves_releaseEntry s cl ch)

theorem verdict_clear (src : Source) (b : Byte) (s : State) :
    VerdictMoves (.clear src b) s (judgeClear src.client b s) := by
  refine verdict_onChannel fun ch names => verdict_check fun _ => verdict_accept ?_
  exact (Edit.cleared ⟨src, b, rfl, names⟩).moves

/-! ### Holds and flash configuration -/

theorem verdict_hold (cl : Client) (b level time : Byte) (s : State) :
    VerdictMoves i s (judgeHold cl b level time s) := by
  refine verdict_side fun f => verdict_check fun _ => verdict_check fun _ => verdict_accept ?_
  have held : Moves i s (s.setUnit f { s.unit f with
      hold := some { holder := cl, level := holdLevel level, remaining := holdTime time } }) :=
    moves_setUnit rfl rfl rfl ⟨rfl, rfl⟩
  exact held.trans (moves_examine _ f)

theorem verdict_unhold (cl : Client) (b : Byte) (s : State) : VerdictMoves i s (judgeUnhold cl b s) := by
  refine verdict_side fun f => verdict_check fun _ => verdict_check fun _ => verdict_accept ?_
  exact moves_endHold s f _ _

theorem verdict_flashCfg (cl : Client) (b : Byte) (period share : Half) (s : State) :
    VerdictMoves i s (judgeFlashCfg cl b period share s) := by
  refine verdict_side fun g => verdict_check fun _ => verdict_accept ?_
  exact moves_setGroup s g _

/-! ### Profiles -/

theorem clamp_le {lo hi : Nat} (h : lo ≤ hi) (n : Nat) : clamp lo hi n ≤ hi :=
  Nat.max_le.mpr ⟨h, Nat.min_le_left _ _⟩

theorem le_clamp (lo hi n : Nat) : lo ≤ clamp lo hi n := Nat.le_max_left _ _

theorem Right.strip_plain (r : Right) : r.strip = .none ∨ r.strip = .demand := by
  cases r <;> simp [Right.strip]

theorem Profile.stripInhibit_rights (p : Profile) :
    ∀ r ∈ [p.stripInhibit.rightBody, p.stripInhibit.rightEngine, p.stripInhibit.rightClimate],
      r = .none ∨ r = .demand := by
  simp [Profile.stripInhibit, Right.strip_plain]

theorem ratedMax_ge (t : ChannelType) : 5 ≤ t.ratedMax := by cases t <;> decide

theorem profileKeeps_writeA (ch : Ch) (p : Profile) (cls tau : BitVec 4) (rated short : Half) :
    ProfileKeeps ch p (p.writeA (typeOf ch) cls tau rated short) := by
  have rated' := clamp_le (ratedMax_ge (typeOf ch)) rated.toNat
  have cls' := clamp_le (Nat.zero_le 3) cls.toNat
  unfold Profile.writeA
  dsimp only
  split
  · exact ⟨fun h => h, fun _ => cls', fun _ => rated', fun h => h, fun _ h => h,
      fun _ n _ hp low high => ⟨n, hp, low, high⟩, fun _ h => h, fun _ _ => Profile.stripInhibit_rights _⟩
  · exact ⟨fun h => h, fun _ => cls', fun _ => rated', fun h => h, fun _ h => h,
      fun _ n _ hp low high => ⟨n, hp, low, high⟩, fun _ h => h, fun _ h => h⟩

theorem profileKeeps_of_claims {ch : Ch} {p p' : Profile}
    (h : p' = { p with iclaim := p'.iclaim, rclaim := p'.rclaim, ishort := p'.ishort, window := p'.window
                       retries := p'.retries, openThr := p'.openThr, silence := p'.silence
                       bridge := p'.bridge })
    (hc : p.rclaim ≤ p.iclaim → p'.rclaim ≤ p'.iclaim) : ProfileKeeps ch p p' := by
  rw [h] at hc ⊢
  exact ⟨hc, fun h => h, fun h => h, fun h => h, fun _ h => h,
    fun _ n _ hp low high => ⟨n, hp, low, high⟩, fun _ h => h, fun _ h => h⟩

theorem periodRange_le {t : ChannelType} {range : Nat × Nat} (h : t.periodRange = some range) :
    range.1 ≤ range.2 := by
  cases t <;> simp only [ChannelType.periodRange, Option.some.injEq, reduceCtorEq] at h <;> subst h <;> decide

theorem profileKeeps_writeD (ch : Ch) (p : Profile) (period : BitVec 24) (vt : Half) :
    ProfileKeeps ch p (p.writeD (typeOf ch) period vt) := by
  refine ⟨fun h => h, fun h => h, fun h => h, fun h => h, fun none _ => ?_, fun range _ some _ _ _ => ?_,
    fun _ h => h, fun _ h => h⟩
  · simp [Profile.writeD, none]
  · exact ⟨clamp range.1 range.2 period.toNat, by simp [Profile.writeD, some], le_clamp _ _ _,
      clamp_le (periodRange_le some) _⟩

theorem profileKeeps_writeE (ch : Ch) (p : Profile) (rights input mode : Byte) (duty : Half) :
    ProfileKeeps ch p (p.writeE (typeOf ch) rights input mode duty) := by
  have duty' := clamp_le (Nat.zero_le 1000) duty.toNat
  have unbound : typeOf ch = .bridge → bindInputStored (typeOf ch) input = none := fun h => by
    simp [bindInputStored, h]
  unfold Profile.writeE
  dsimp only
  split
  · exact ⟨fun h => h, fun h => h, fun h => h, fun _ => duty', fun _ h => h,
      fun _ n _ hp low high => ⟨n, hp, low, high⟩, fun h _ => unbound h,
      fun _ _ => Profile.stripInhibit_rights _⟩
  next notBridge =>
    exact ⟨fun h => h, fun h => h, fun h => h, fun _ => duty', fun _ h => h,
      fun _ n _ hp low high => ⟨n, hp, low, high⟩, fun h _ => unbound h,
      fun h => absurd (.inl h) notBridge⟩

theorem moves_writeProfile {s : State} {ch : Ch} {f : Profile → Profile} (hoff : (s.chan ch).st = .off)
    (hp : ProfileKeeps ch (s.chan ch).profile (f (s.chan ch).profile))
    (hr : (f (s.chan ch).profile).retries = (s.chan ch).profile.retries)
    (hbr : ∀ br, bridgeOf ch = some br →
      SwitchesOn i br ∨ (f (s.chan ch).profile).bridge = (s.chan ch).profile.bridge) :
    Moves i s (s.writeProfile ch f) := (Edit.profile hoff hp ⟨le_rfl, fun _ => hr⟩ hbr).moves

theorem verdict_checkProfile {cl : Client} {ch : Ch} {s t : State}
    (h : (s.chan ch).st = .off → Moves i s t) : VerdictMoves i s (checkProfile cl ch s t) :=
  verdict_check fun _ => verdict_check fun hoff => verdict_accept (h (by simpa using hoff))

theorem moves_removeInhibits (s : State) (ch : Ch) : Moves i s (s.removeInhibits ch) := by
  refine foldl_within (R := Moves i) (Moves.refl i) Moves.trans (fun t cl => ?_) Client.all s
  split
  next hs => exact (Edit.amend hs (fun _ => rfl) (by simp)).moves
  next => exact .refl i t

theorem verdict_profileA (cl : Client) (b : Byte) (cls tau : BitVec 4) (rated short : Half) (s : State) :
    VerdictMoves i s (judgeProfileA cl b cls tau rated short s) := by
  refine verdict_onChannel fun ch _ => verdict_checkProfile fun hoff => ?_
  have fields (p : Profile) : (p.writeA (typeOf ch) cls tau rated short).retries = p.retries ∧
      (p.writeA (typeOf ch) cls tau rated short).bridge = p.bridge := by
    unfold Profile.writeA
    dsimp only
    split <;> exact ⟨rfl, rfl⟩
  have written : Moves i s (s.writeProfile ch (Profile.writeA (typeOf ch) cls tau rated short)) :=
    moves_writeProfile hoff (profileKeeps_writeA ch _ _ _ _ _) (fields _).1 fun _ _ => .inr (fields _).2
  unfold State.acceptProfileA
  dsimp only
  split
  · exact (written.trans (moves_removeInhibits _ ch)).trans (moves_recomputed _ ch)
  · exact written

theorem verdict_profileB (cl : Client) (b : Byte) (ishort window : Half) (retries thr : Byte) (s : State) :
    VerdictMoves i s (judgeProfileB cl b ishort window retries thr s) := by
  refine verdict_onChannel fun ch _ => verdict_checkProfile fun hoff => ?_
  set p := (s.chan ch).profile.writeB (typeOf ch) ishort window retries thr with hp
  have keeps : ProfileKeeps ch (s.chan ch).profile p := profileKeeps_of_claims rfl fun h => h
  have lowered : Moves i s (s.setChan ch { s.chan ch with
      profile := p, default := false, tripCount := min (s.chan ch).tripCount p.retries }) :=
    (Edit.profile hoff keeps ⟨Nat.min_le_left _ _, fun below => absurd (Nat.min_le_right _ _) (not_le.mpr below)⟩
      fun _ _ => .inr rfl).moves
  unfold State.acceptProfileB State.writeProfile
  dsimp only
  rw [State.setChan_setChan, State.chan_setChan_same]
  exact lowered

theorem verdict_profileC (cl : Client) (b : Byte) (iclaim rclaim : Half) (silence : Byte) (s : State) :
    VerdictMoves i s (judgeProfileC cl b iclaim rclaim silence s) := by
  refine verdict_onChannel fun ch _ => verdict_checkProfile fun hoff => ?_
  refine moves_writeProfile hoff (profileKeeps_of_claims rfl fun _ => ?_) rfl fun _ _ => .inr rfl
  exact (clamp_le (Nat.zero_le _) _).trans (Nat.min_le_left _ _)

theorem verdict_profileD (cl : Client) (b : Byte) (period : BitVec 24) (vt : Half) (s : State) :
    VerdictMoves i s (judgeProfileD cl b period vt s) := by
  refine verdict_onChannel fun ch _ => verdict_checkProfile fun hoff => ?_
  exact moves_writeProfile hoff (profileKeeps_writeD ch _ _ _) rfl fun _ _ => .inr rfl

theorem verdict_profileE (cl : Client) (b rights input mode : Byte) (duty : Half) (s : State) :
    VerdictMoves i s (judgeProfileE cl b rights input mode duty s) := by
  refine verdict_onChannel fun ch _ => verdict_checkProfile fun hoff => ?_
  have fields (p : Profile) : (p.writeE (typeOf ch) rights input mode duty).retries = p.retries ∧
      (p.writeE (typeOf ch) rights input mode duty).bridge = p.bridge := by
    unfold Profile.writeE
    dsimp only
    split <;> exact ⟨rfl, rfl⟩
  exact moves_writeProfile hoff (profileKeeps_writeE ch _ _ _ _ _) (fields _).1 fun _ _ => .inr (fields _).2

theorem verdict_profileF (src : Source) (b : Byte) (stall : Half) (stallt braket deadt idle : Byte)
    (s : State) : VerdictMoves (.profileF src b stall stallt braket deadt idle) s
      (judgeProfileF src.client b stall stallt braket deadt idle s) := by
  refine verdict_onChannel fun ch names => ?_
  split
  · exact verdict_refuse s _
  next br hbr =>
    refine verdict_checkProfile fun hoff => ?_
    have switches : SwitchesOn (.profileF src b stall stallt braket deadt idle) br := by
      rw [bridgeOf_eq_some hbr] at names
      exact .inr (.inr (.inr (.inr ⟨src, b, stall, stallt, braket, deadt, idle, rfl, names⟩)))
    have written := moves_writeProfile (i := .profileF src b stall stallt braket deadt idle)
      (f := Profile.writeF stall stallt braket deadt idle) hoff (profileKeeps_of_claims rfl fun h => h) rfl
      (fun br' h => .inl (by rw [hbr] at h; cases h; exact switches))
    unfold State.acceptProfileF
    dsimp only
    split
    · exact written.trans (moves_setBridge rfl Iff.rfl (.inl switches))
    · exact written

/-! ### The other configurations, READ and RESET -/

theorem moves_acceptFeedCfg {s : State} {f : Feed} {peak cont vshed : Half}
    (hoff : ∀ ch, feedOf ch = f → (s.chan ch).st = .off) : Moves i s (s.acceptFeedCfg f peak cont vshed) := by
  refine Moves.trans ?_ (moves_examine _ f)
  have budgets : Moves i s (s.setUnit f { s.unit f with
      peak := clamp 100 4000 peak.toNat, cont := min (clamp 100 4000 cont.toNat) (clamp 100 4000 peak.toNat)
      vshed := clamp 160 240 vshed.toNat }) := by
    refine Edit.moves (.budgets ?_ ?_ ?_ hoff) <;> rfl
  refine budgets.trans ?_
  refine moves_overDistinct (P := fun ch t => (t.chan ch).st = .off) ?step ?keep _ _ (channelsOf_nodup f) ?holds
  case step =>
    intro ch t off
    have keeps : ProfileKeeps ch (t.chan ch).profile ((t.chan ch).profile.clampClaims
        (clamp 100 4000 peak.toNat) (min (clamp 100 4000 cont.toNat) (clamp 100 4000 peak.toNat))) :=
      profileKeeps_of_claims rfl fun _ => (Nat.min_le_right _ _).trans (Nat.min_le_left _ _)
    exact (Edit.profile off keeps ⟨le_rfl, fun _ => rfl⟩ fun _ _ => .inr rfl).moves
  case keep =>
    intro ch x t hx _ off
    rw [State.chan_setChan, if_neg hx]
    exact off
  case holds => exact fun ch mem => hoff ch (mem_channelsOf.mp mem)

theorem verdict_feedCfg (cl : Client) (b : Byte) (peak cont vshed : Half) (s : State) :
    VerdictMoves i s (judgeFeedCfg cl b peak cont vshed s) := by
  refine verdict_side fun f => verdict_check fun _ => verdict_check fun off => verdict_accept ?_
  refine moves_acceptFeedCfg fun ch hf => ?_
  simpa using List.all_eq_true.mp off ch (mem_channelsOf.mpr hf)

theorem moves_acceptClientCfg (s : State) (who : Client) (time : Half) :
    Moves i s (s.acceptClientCfg who time) := by
  have stored : Moves i s (s.setClient who { s.client who with timeout := clamp 50 5000 time.toNat }) :=
    OnlyOther.moves rfl
  unfold State.acceptClientCfg
  dsimp only
  split
  · exact stored.trans (moves_expireSilence _ who)
  · exact stored

theorem verdict_clientCfg (cl : Client) (b : Byte) (time : Half) (s : State) :
    VerdictMoves i s (judgeClientCfg cl b time s) := by
  unfold judgeClientCfg
  split
  · exact verdict_refuse s _
  · exact verdict_check fun _ => verdict_accept (moves_acceptClientCfg s _ time)

theorem moves_acceptStatusCfg (s : State) (p : Port) (time : Half) :
    Moves i s (s.acceptStatusCfg p time) := by
  have stored : Moves i s (s.setPort p { s.port p with interval := clamp 20 1000 time.toNat }) :=
    moves_setPort fun h => h
  unfold State.acceptStatusCfg
  dsimp only
  split
  · exact stored.trans (moves_restartStatus _ p)
  · exact stored

theorem verdict_statusCfg (cl : Client) (b : Byte) (time : Half) (s : State) :
    VerdictMoves i s (judgeStatusCfg cl b time s) :=
  verdict_side fun p => verdict_check fun _ => verdict_accept (moves_acceptStatusCfg s p time)

theorem verdict_read (p : Port) (b : Byte) (s : State) : VerdictMoves i s (judgeRead p b s) := by
  refine verdict_onChannel fun ch _ => verdict_check fun _ => verdict_accept ?_
  have stored : Moves i s (s.setPort p { s.port p with read := some ch }) := moves_setPort fun h => h
  exact stored.trans (moves_checkRead _ p)

theorem verdict_reset (src : Source) (s : State) : VerdictMoves i s (judgeReset src s) :=
  verdict_check fun _ => verdict_accept (moves_softReset s src.port)

/-! ### Raw frames -/

theorem moves_ignoreFrame (p : Port) (f : CanFrame) (s : State) : Moves i s (State.ignoreFrame p f s) := by
  unfold State.ignoreFrame
  split
  · exact moves_seeActivity s p
  · split
    · exact .refl i s
    · split
      · exact .refl i s
      · exact moves_awake s

theorem moves_refuseFrame (p : Port) (f : CanFrame) (s : State) : Moves i s (State.refuseFrame p f s) := by
  unfold State.refuseFrame
  split
  · split
    · exact moves_takeFrame fun t => moves_offerReply t _ _ _ _ _
    · exact .refl i s
  · exact .refl i s

/-! ### Events -/

theorem moves_whenActive {f : State → State} (h : ∀ t, Moves i t (f t)) (s : State) :
    Moves i s (whenActive f s) := by
  unfold whenActive
  split
  · exact h s
  · exact .refl i s

theorem moves_whenDue {due : State → Bool} {f : State → State} (h : ∀ t, due t = true → Moves i t (f t))
    (s : State) : Moves i s (whenDue due f s) := by
  unfold whenDue
  split
  next hd => exact h s hd
  next => exact .refl i s

theorem moves_run {f : State → State} (h : ∀ t, Moves i t (f t)) (s : State) : Moves i s (s.run f) := by
  unfold State.run
  split
  · exact (h s).trans (moves_settle s)
  · exact .refl i s

/-- An expiry in ACTIVE, when it is due. -/
theorem moves_expiry {due : State → Bool} {f : State → State} (h : ∀ t, due t = true → Moves i t (f t))
    (s : State) : Moves i s (s.run (whenActive (whenDue due f))) :=
  moves_run (moves_whenActive (moves_whenDue h)) s

theorem moves_expireWindow {s : State} {ch : Ch} (h : s.windowDue ch = true) :
    Moves i s (State.expireWindow ch s) := by
  have ramping : (s.chan ch).st = .ramping := by
    simp only [State.windowDue, Bool.and_eq_true, decide_eq_true_eq] at h
    exact h.1
  exact (Edit.window ramping).moves.trans (moves_examine _ _)

theorem moves_expireGoodRun (s : State) (ch : Ch) : Moves i s (State.expireGoodRun ch s) :=
  moves_marks rfl (Nat.zero_le _)

theorem moves_startPeriod {s : State} {ch : Ch} (h : s.periodDue ch = true) :
    Moves i s (State.startPeriod ch s) := by
  have due : 0 < (s.chan ch).startsDue := by simpa [State.periodDue] using h
  unfold Channel.startsDue at due
  split at due
  next ha =>
    refine (Edit.period ha fun none => ?_).moves
    rw [none] at due
    exact lt_irrefl _ due
  next => exact absurd due (lt_irrefl _)

theorem moves_expireTimed {s : State} {ch : Ch} {cl : Client} (h : s.timedDue ch cl = true) :
    Moves i s (State.expireTimed ch cl s) := by
  refine (moves_removeEntry fun e hs _ => ?_).trans (moves_offerEvent _ _)
  unfold State.timedDue at h
  rw [hs] at h
  cases e <;> simp_all [Entry.isDrive]

theorem moves_expireAdmitDelay (s : State) (ch : Ch) : Moves i s (State.expireAdmitDelay ch s) := by
  refine Moves.trans ?_ (moves_offerEvent _ _)
  refine moves_setUnit ?_ rfl rfl ⟨rfl, rfl⟩
  unfold queueOrder
  rw [List.map_map]
  refine List.map_congr_left fun e _ => ?_
  dsimp only [Function.comp]
  split <;> rfl

theorem moves_shedStep (s : State) (f : Feed) : Moves i s (State.shedStep f s) :=
  (moves_setMonitor s f _).trans (moves_shedOne _ f .low)

theorem moves_beginDrive {s : State} {br : Bridge} {stage : DeadStage} (switches : SwitchesOn i br)
    (h : (s.bridge br).st = .dead stage) : Moves i s (State.beginDrive br s) := by
  unfold State.beginDrive
  split
  next => exact moves_setBridge rfl (by simp [BridgeRecord.enterDrive, h]) (.inl switches)
  next => exact .refl i s

theorem stageDue_st {s : State} {br : Bridge} {st : BridgeState} (h : s.stageDue br st = true) :
    (s.bridge br).st = st := by
  simp only [State.stageDue, Bool.and_eq_true, decide_eq_true_eq] at h
  exact h.1

theorem moves_expireDrive {s : State} {br : Bridge} (h : s.driveDue br = true) :
    Moves i s (State.expireDrive br s) := by
  refine moves_endDrive ?_
  simp only [State.driveDue, Bool.and_eq_true, decide_eq_true_eq] at h
  exact h.1

theorem moves_beginBrake {s : State} {br : Bridge} (switches : SwitchesOn i br)
    (h : (s.bridge br).st = .dead .beforeBrake) : Moves i s (State.beginBrake br s) :=
  moves_setBridge rfl (by simp [h]) (.inl switches)

theorem moves_endBrake {s : State} {br : Bridge} (h : (s.bridge br).st = .brake) :
    Moves i s (State.endBrake br s) :=
  moves_setBridge rfl (by simp [h]) (.inr (legsFall_of_off (by simp) (by simp) (by simp)))

theorem moves_endDeadAfterBrake {s : State} {br : Bridge} (switches : SwitchesOn i br)
    (h : (s.bridge br).st = .dead .afterBrake) : Moves i s (State.endDeadAfterBrake br s) := by
  unfold State.endDeadAfterBrake
  split
  · exact moves_beginDrive switches h
  · have rested : Moves i s (s.setBridge br { s.bridge br with rest := none }) :=
      moves_setBridge rfl Iff.rfl (.inl switches)
    exact rested.trans (moves_finishDrive fun _ => .inl switches)

theorem moves_expireRest {s : State} {br : Bridge} (switches : SwitchesOn i br) :
    Moves i s (State.expireRest br s) := moves_setBridge rfl Iff.rfl (.inl switches)

theorem moves_completeRead (p : Port) (s : State) : Moves i s (State.completeRead p s) := by
  unfold State.completeRead
  dsimp only
  split
  · exact .refl i s
  · split
    · exact moves_checkRead s p
    · split
      · exact moves_departure s p
      · exact .refl i s

/-! ### A command and a step -/

theorem moves_of_next {s t u : State} (k : Moves i s u)
    (h : (Host.Outcome.next u : Host.Outcome State Fault Refusal) = .next t) : Moves i s t := by
  cases h; exact k

/-- Every command but the two of the supply is a chain of moves. -/
theorem exec_moves {s t : State} (hr : ∀ zone, i ≠ .powerOnReset zone) (hl : i ≠ .vkeepLoss)
    (h : exec i s = .next t) : Moves i s t := by
  cases i with
  | powerOnReset zone => exact absurd rfl (hr zone)
  | vkeepLoss => exact absurd rfl hl
  | present src => exact moves_of_next (moves_run (fun _ => moves_request fun t => verdict_accept (.refl _ t)) s) h
  | setSteady src b d => exact moves_of_next (moves_run (fun _ => moves_request (verdict_setSteady _ b d)) s) h
  | setTimed src b d n => exact moves_of_next (moves_run (fun _ => moves_request (verdict_setTimed _ b d n)) s) h
  | setFlash src b d g n => exact moves_of_next (moves_run (fun _ => moves_request (verdict_setFlash _ b d g n)) s) h
  | setInhibit src b => exact moves_of_next (moves_run (fun _ => moves_request (verdict_setInhibit _ b)) s) h
  | drive src b d n => exact moves_of_next (moves_run (fun _ => moves_request (verdict_drive _ b d n)) s) h
  | release src b => exact moves_of_next (moves_run (fun _ => moves_request (verdict_release _ b)) s) h
  | clear src b => exact moves_of_next (moves_run (fun _ => moves_request (verdict_clear src b)) s) h
  | hold src b l n => exact moves_of_next (moves_run (fun _ => moves_request (verdict_hold _ b l n)) s) h
  | unhold src b => exact moves_of_next (moves_run (fun _ => moves_request (verdict_unhold _ b)) s) h
  | flashCfg src b p o => exact moves_of_next (moves_run (fun _ => moves_request (verdict_flashCfg _ b p o)) s) h
  | profileA src b c u r k =>
    exact moves_of_next (moves_run (fun _ => moves_request (verdict_profileA _ b c u r k)) s) h
  | profileB src b m w r o =>
    exact moves_of_next (moves_run (fun _ => moves_request (verdict_profileB _ b m w r o)) s) h
  | profileC src b m r k => exact moves_of_next (moves_run (fun _ => moves_request (verdict_profileC _ b m r k)) s) h
  | profileD src b p v => exact moves_of_next (moves_run (fun _ => moves_request (verdict_profileD _ b p v)) s) h
  | profileE src b r n m d =>
    exact moves_of_next (moves_run (fun _ => moves_request (verdict_profileE _ b r n m d)) s) h
  | profileF src b a n k d l =>
    exact moves_of_next (moves_run (fun _ => moves_request (verdict_profileF src b a n k d l)) s) h
  | feedCfg src b p c v => exact moves_of_next (moves_run (fun _ => moves_request (verdict_feedCfg _ b p c v)) s) h
  | clientCfg src b n => exact moves_of_next (moves_run (fun _ => moves_request (verdict_clientCfg _ b n)) s) h
  | statusCfg src b n => exact moves_of_next (moves_run (fun _ => moves_request (verdict_statusCfg _ b n)) s) h
  | read src b => exact moves_of_next (moves_run (fun _ => moves_request (verdict_read _ b)) s) h
  | reset src => exact moves_of_next (moves_run (fun _ => moves_request (verdict_reset src)) s) h
  | frameIgnored p f => exact moves_of_next (moves_run (moves_ignoreFrame p f) s) h
  | frameRefusedByPort p f => exact moves_of_next (moves_run (moves_refuseFrame p f) s) h
  | senseSample ch r o =>
    exact moves_of_next (moves_run (moves_whenActive fun t => moves_senseSample t ch r o) s) h
  | openSet ch r o => exact moves_of_next (moves_expiry (fun t _ => moves_senseSample t ch r o) s) h
  | openClear ch r o => exact moves_of_next (moves_expiry (fun t _ => moves_senseSample t ch r o) s) h
  | inrushWindowExpiry ch => exact moves_of_next (moves_expiry (fun _ => moves_expireWindow) s) h
  | goodRunTimerExpiry ch => exact moves_of_next (moves_expiry (fun t _ => moves_expireGoodRun t ch) s) h
  | periodStart ch => exact moves_of_next (moves_expiry (fun _ => moves_startPeriod) s) h
  | timedExpiry ch cl => exact moves_of_next (moves_expiry (fun _ => moves_expireTimed) s) h
  | silenceExpiry cl => exact moves_of_next (moves_expiry (fun t _ => moves_expireSilence t cl) s) h
  | inputActivation w l =>
    exact moves_of_next (moves_run (moves_whenDue fun t _ => moves_wiredSample t l) s) h
  | inputDeactivation w l =>
    exact moves_of_next (moves_run (moves_whenDue fun t _ => moves_wiredSample t l) s) h
  | keyChange l => exact moves_of_next (moves_run (moves_whenDue fun t _ => moves_wiredSample t l) s) h
  | admitDelay ch => exact moves_of_next (moves_expiry (fun t _ => moves_expireAdmitDelay t ch) s) h
  | holdExpiry f => exact moves_of_next (moves_expiry (fun t _ => moves_endHold t f .expired none) s) h
  | feedSample f v c => exact moves_of_next (moves_run (moves_whenActive fun t => moves_feedSample t f v c) s) h
  | feedStateChange f v c => exact moves_of_next (moves_expiry (fun t _ => moves_feedSample t f v c) s) h
  | shedStep f => exact moves_of_next (moves_expiry (fun t _ => moves_shedStep t f) s) h
  | overloadShed f v c => exact moves_of_next (moves_expiry (fun t _ => moves_feedSample t f v c) s) h
  | restore f v c => exact moves_of_next (moves_expiry (fun t _ => moves_feedSample t f v c) s) h
  | onPhaseEnd g => exact moves_of_next (moves_expiry (fun t _ => moves_endOnPhase t g) s) h
  | flashDone g ch cl => exact moves_of_next (moves_expiry (fun t _ => moves_endOnPhase t g) s) h
  | offPhaseEnd g => exact moves_of_next (moves_expiry (fun t _ => moves_endOffPhase t g) s) h
  | deadBeforeDriveExpiry br =>
    exact moves_of_next (moves_expiry (fun _ hd => moves_beginDrive (.inl rfl) (stageDue_st hd)) s) h
  | driveTimerExpiry br => exact moves_of_next (moves_expiry (fun _ => moves_expireDrive) s) h
  | stallEnd br r o =>
    exact moves_of_next (moves_expiry (fun t _ => moves_senseSample t (bridgeChannel br) r o) s) h
  | deadBeforeBrakeExpiry br =>
    exact moves_of_next (moves_expiry (fun _ hd => moves_beginBrake (.inr (.inl rfl)) (stageDue_st hd)) s) h
  | brakeExpiry br => exact moves_of_next (moves_expiry (fun _ hd => moves_endBrake (stageDue_st hd)) s) h
  | deadAfterBrakeExpiry br =>
    exact moves_of_next
      (moves_expiry (fun _ hd => moves_endDeadAfterBrake (.inr (.inr (.inl rfl))) (stageDue_st hd)) s) h
  | restTimerExpiry br =>
    exact moves_of_next (moves_expiry (fun _ _ => moves_expireRest (.inr (.inr (.inr (.inl rfl))))) s) h
  | statusRound p => exact moves_of_next (moves_expiry (fun t _ => moves_restartStatus t p) s) h
  | transmitComplete p => exact moves_of_next (moves_run (fun t => moves_departure t p) s) h
  | readCompletion p => exact moves_of_next (moves_run (moves_completeRead p) s) h
  | transmitError p => exact moves_of_next (moves_run (fun t => moves_transmitError t p) s) h
  | busOff p => exact moves_of_next (moves_run (moves_whenDue fun t _ => moves_transmitError t p) s) h
  | busRecovery p => exact moves_of_next (moves_run (moves_whenDue fun t _ => moves_recoverPort t p) s) h
  | sleepEntry => exact moves_of_next (moves_expiry (fun t _ => moves_enterSleep t) s) h
  | wake cause => exact moves_of_next (moves_run (moves_whenDue fun t _ => moves_awake t) s) h
  | wiredInputSample l => exact moves_of_next (moves_run (fun t => moves_wiredSample t l) s) h
  | busActivity p => exact moves_of_next (moves_run (fun t => moves_seeActivity t p) s) h

/-- What a step is: a power-on reset, a loss of the supply, a millisecond on an empty queue, or a command
that is a chain of moves from the state with the queue's rest. -/
theorem step_cases {s t : State} (h : step s = .next t) :
    (∃ zone, s.pending.head? = some (.powerOnReset zone) ∧
      t = { State.powerOn zone with freeIndex := s.freeIndex, pending := s.pending.tail }) ∨
    (s.pending.head? = some .vkeepLoss ∧ t = { s with powered := false, pending := s.pending.tail }) ∨
    (s.pending = [] ∧ t = s.tick) ∨
    ∃ c, s.pending.head? = some c ∧ Moves c { s with pending := s.pending.tail } t := by
  unfold step at h
  cases hp : s.pending with
  | nil =>
    rw [hp] at h
    cases h
    exact .inr (.inr (.inl ⟨rfl, rfl⟩))
  | cons c rest =>
    rw [hp] at h
    by_cases hr : ∃ zone, c = .powerOnReset zone
    · obtain ⟨zone, rfl⟩ := hr
      cases h
      exact .inl ⟨zone, rfl, rfl⟩
    · by_cases hl : c = .vkeepLoss
      · subst hl
        cases h
        exact .inr (.inl ⟨rfl, rfl⟩)
      · exact .inr (.inr (.inr ⟨c, rfl, exec_moves (fun zone e => hr ⟨zone, e⟩) hl h⟩))

end Sys2Proof.Machine
end

section
/-!
PROOF. Invariants of a step from invariants of its single changes: a move is a chain of fine changes, a fine
change is a chain of changes of each channel's record, and each induction over them is made once here.
-/
namespace Sys2Proof.Machine

variable {i : Instr}

/-! ### Fine changes -/

/-- The single changes that moves are chains of. -/
inductive Fine (i : Instr) : State → State → Prop
  | edit {s t : State} (h : Edit i s t) : Fine i s t
  | own {s : State} {br : Bridge} {cl : Client} {dir : Direction} {duration : Nat} (hw : cl ≠ .wired)
      (ho : (s.bridge br).owner = none ∨ (s.bridge br).owner = some cl) : Fine i s (s.own br cl dir duration)
  | disown {s : State} {br : Bridge} {cl : Client} (ho : (s.bridge br).owner = some cl) :
      Fine i s (s.disown br cl)
  | bridge {s : State} {br : Bridge} {r : BridgeRecord} (ho : r.owner = (s.bridge br).owner) :
      Fine i s (s.setBridge br r)
  | trip {s : State} {ch : Ch} {cause : TripCause} {rms vavg : Nat} (ha : (s.chan ch).admitted = true) :
      Fine i s (s.tripped ch cause rms vavg)

/-- A chain of fine changes. -/
def Fines (i : Instr) : State → State → Prop := Relation.ReflTransGen (Fine i)

theorem Fine.fines {s t : State} (h : Fine i s t) : Fines i s t := Relation.ReflTransGen.single h

theorem Fines.trans {s t u : State} (h : Fines i s t) (k : Fines i t u) : Fines i s u :=
  Relation.ReflTransGen.trans h k

theorem Fines.refl (s : State) : Fines i s s := Relation.ReflTransGen.refl

theorem fines_handOver (s : State) (ch : Ch) : Fines i s (s.handOver ch) := by
  rcases handOver_edit (i := i) s ch with h | h
  · rw [h]; exact .refl s
  · exact (Fine.edit h).fines

theorem driveTaken_eq (s : State) (br : Bridge) (dir : Direction) (n : Nat) :
    ∃ r, s.driveTaken br dir n = s.setBridge br r ∧ r.owner = (s.bridge br).owner ∧
      (r.st = .idle ↔ (s.bridge br).st = .idle) ∧ LegsFall br s (s.setBridge br r) := by
  have self : s.setBridge br (s.bridge br) = s := by cases br <;> rfl
  have stays : LegsFall br s s := legsFall_of_same rfl rfl rfl Iff.rfl rfl
  unfold State.driveTaken
  dsimp only
  split
  next => exact ⟨s.bridge br, self.symm, rfl, Iff.rfl, by rwa [self]⟩
  next => exact ⟨s.bridge br, self.symm, rfl, Iff.rfl, by rwa [self]⟩
  next drive =>
    split
    · refine ⟨_, rfl, rfl, Iff.rfl, legsFall_of_same rfl ?_ ?_ ?_ rfl⟩ <;> simp
    · exact ⟨_, rfl, rfl, by simp [drive], legsFall_of_off (by simp) (by simp) (by simp)⟩
  next => exact ⟨_, rfl, rfl, Iff.rfl, legsFall_of_same rfl (by simp) (by simp) (by simp) rfl⟩

theorem Move.fines {s t : State} (h : Move i s t) : Fines i s t := by
  cases h with
  | edit h => exact (Fine.edit h).fines
  | @drive br cl dir n hw ho =>
    obtain ⟨r, taken, owner, -, -⟩ := driveTaken_eq (s.own br cl dir n) br dir n
    rw [taken]
    exact ((Fine.own hw ho).fines.trans (Fine.bridge owner).fines).trans (fines_handOver _ _)
  | @finish s' u br r hs hp hq ho hi hl =>
    have owner : (u.bridge br).owner = (s.bridge br).owner := by
      rw [hp.bridge]
      rcases hs with e | ⟨-, cause, rms, vavg, e⟩
      · rw [e]
      · rw [e]; rfl
    have start : Fines i s s' := by
      rcases hs with e | ⟨ha, cause, rms, vavg, e⟩ <;> rw [e]
      · exact .refl s
      · exact (Fine.trip ha).fines
    have idle : Fines i s (u.setBridge br r) :=
      (start.trans (Fine.edit (.ports hp hq)).fines).trans (Fine.bridge (ho.trans owner.symm)).fines
    unfold State.dropOwner
    split
    · exact idle
    next cl hcl => exact (idle.trans (Fine.disown hcl).fines).trans (fines_handOver _ _)

/-! ### Invariants of a step -/

theorem Fines.keeps {I : State → Prop} (fine : ∀ s t, Fine i s t → I s → I t) {s t : State}
    (h : Fines i s t) (hs : I s) : I t := by
  induction h with
  | refl => exact hs
  | tail _ last ih => exact fine _ _ last ih

theorem Moves.keeps {I : State → Prop} (fine : ∀ s t, Fine i s t → I s → I t) {s t : State}
    (h : Moves i s t) (hs : I s) : I t := by
  induction h with
  | refl => exact hs
  | tail _ last ih => exact last.fines.keeps fine ih

/-- What a step needs for an invariant: power and queue are not read by it, and it holds after a power-on
reset, through a millisecond, and through every fine change of a command. -/
structure Kept (I : State → Prop) : Prop where
  frame : ∀ s powered pending, I s → I { s with powered := powered, pending := pending }
  powerOn : ∀ zone, I (State.powerOn zone)
  free : ∀ s n, I s → I { s with freeIndex := n }
  tick : ∀ s, I s → I s.tick
  fine : ∀ i s t, Fine i s t → I s → I t

theorem Kept.step {I : State → Prop} (h : Kept I) {s t : State} (hstep : step s = .next t) (hs : I s) :
    I t := by
  rcases step_cases hstep with ⟨zone, -, rfl⟩ | ⟨-, rfl⟩ | ⟨-, rfl⟩ | ⟨c, -, moves⟩
  · exact h.frame _ true s.pending.tail (h.free _ s.freeIndex (h.powerOn zone))
  · exact h.frame s false _ hs
  · exact h.tick s hs
  · exact moves.keeps (h.fine c) (h.frame s s.powered _ hs)

/-- An invariant that may lean on another one that every step keeps. -/
theorem Kept.and {I J : State → Prop} (h : Kept I) (frame : ∀ s powered pending, J s →
      J { s with powered := powered, pending := pending }) (powerOn : ∀ zone, J (State.powerOn zone))
    (free : ∀ s n, J s → J { s with freeIndex := n }) (tick : ∀ s, I s → J s → J s.tick)
    (fine : ∀ i s t, Fine i s t → I s → J s → J t) : Kept fun s => I s ∧ J s where
  frame s powered pending hs := ⟨h.frame s powered pending hs.1, frame s powered pending hs.2⟩
  powerOn zone := ⟨h.powerOn zone, powerOn zone⟩
  free s n hs := ⟨h.free s n hs.1, free s n hs.2⟩
  tick s hs := ⟨h.tick s hs.1, tick s hs.1 hs.2⟩
  fine i s t ht hs := ⟨h.fine i s t ht hs.1, fine i s t ht hs.1 hs.2⟩

/-! ### One channel's record -/

/-- One change of a channel's record, in a state `s`. -/
inductive ChanChange (i : Instr) (s : State) (ch : Ch) : Channel → Channel → Prop
  | stamp {c : Channel} (n : Option Nat) : ChanChange i s ch c { c with stamp := n }
  | record {c : Channel} : ChanChange i s ch c (c.record (typeOf ch) (s.combined ch))
  | sample {c : Channel} {rms : Nat} {onCur : Option Nat} (h : rms ≤ (typeOf ch).fullScale) :
      ChanChange i s ch c (c.takeSample rms onCur)
  | marks {c : Channel} {low good n : Nat} {open_ conducted : Bool} {goodRun : Option Nat}
      (h : n ≤ c.tripCount) : ChanChange i s ch c { c with
        lowCount := low, goodCount := good, tripCount := n, openFlag := open_, conducted := conducted
        goodRun := goodRun }
  | period {c : Channel} {vavg : Nat} (ha : c.admitted = true) (ht : c.periodTimer ≠ none) :
      ChanChange i s ch c (c.startPeriod (typeOf ch) vavg)
  | cleared {c : Channel} (h : ClearsChannel i ch) : ChanChange i s ch c c.clear
  | profile {c : Channel} {p : Profile} {d : Bool} {n : Nat} (hoff : c.st = .off)
      (hp : ProfileKeeps ch c.profile p)
      (hn : n ≤ c.tripCount ∧ (p.retries < n → p.retries = c.profile.retries)) :
      ChanChange i s ch c { c with profile := p, default := d, tripCount := n }
  | rests {c : Channel} {dest : ChState} (ha : c.admitted = false) (hl : c.st ≠ .locked)
      (hd : dest = .off ∨ dest = .waiting ∨ dest = .shed ∨ dest = .suspended) :
      ChanChange i s ch c { c with st := dest }
  | leaves {c : Channel} {dest : ChState} (ha : c.admitted = true)
      (hd : dest = .off ∨ dest = .shed ∨ dest = .suspended) : ChanChange i s ch c (c.leaveAdmitted dest)
  | trip {c : Channel} {cause : TripCause} {rms vavg : Nat} (ha : c.admitted = true) :
      ChanChange i s ch c (c.afterTrip cause rms vavg)
  | enters {c : Channel} {vavg n : Nat} (hl : s.AdmissionKept → c.st ≠ .locked) :
      ChanChange i s ch c (c.enterRamping (typeOf ch) vavg n)
  | window {c : Channel} (h : c.st = .ramping) :
      ChanChange i s ch c { c with st := .on, window := none, goodRun := some 0 }
  | softReset {c : Channel} : ChanChange i s ch c c.softReset

/-- A chain of changes of a channel's record. -/
def ChanChanges (i : Instr) (s : State) (ch : Ch) : Channel → Channel → Prop :=
  Relation.ReflTransGen (ChanChange i s ch)

theorem ChanChange.changes {s : State} {ch : Ch} {c d : Channel} (h : ChanChange i s ch c d) :
    ChanChanges i s ch c d := Relation.ReflTransGen.single h

theorem ChanChanges.refl (s : State) (ch : Ch) (c : Channel) : ChanChanges i s ch c c :=
  Relation.ReflTransGen.refl

theorem ChanChanges.trans {s : State} {ch : Ch} {c d e : Channel} (h : ChanChanges i s ch c d)
    (k : ChanChanges i s ch d e) : ChanChanges i s ch c e := Relation.ReflTransGen.trans h k

theorem ChanChanges.of_chans {s t : State} (h : t.chans = s.chans) (ch : Ch) :
    ChanChanges i s ch (s.chan ch) (t.chan ch) := by
  have e : t.chan ch = s.chan ch := by unfold State.chan; rw [h]
  rw [e]; exact .refl s ch _

theorem changes_setChan {s : State} {ch : Ch} {c : Channel} (h : ChanChanges i s ch (s.chan ch) c) (x : Ch) :
    ChanChanges i s x (s.chan x) ((s.setChan ch c).chan x) := by
  rw [State.chan_setChan]
  split
  next e => subst e; exact h
  next => exact .refl s x _

theorem Told.changes {s : State} {ch : Ch} {c : Channel} (h : Told s ch c) :
    ChanChanges i s ch (s.chan ch) c := by
  rcases h with rfl | ⟨-, rfl⟩
  · exact .refl s ch _
  · exact ChanChange.record.changes

/-- The record of a channel that has been admitted (R15). -/
theorem chan_admitChannel_same (s : State) (ch : Ch) : ∃ m vavg n,
    (s.admitChannel ch).chan ch = ({ s.chan ch with stamp := m } : Channel).enterRamping (typeOf ch) vavg n := by
  set t := (s.addClaims ch).countAdmission (feedOf ch) with ht
  refine ⟨(t.chan ch).stamp, (t.monitor (feedOf ch)).vavg, (t.unit (feedOf ch)).counter, ?_⟩
  have before : t.chan ch = { s.chan ch with stamp := (t.chan ch).stamp } :=
    chan_countAdmission (s.addClaims ch) (feedOf ch) ch
  rw [← before]
  change (t.enterRamping ch (t.unit (feedOf ch)).counter).chan ch = _
  unfold State.enterRamping
  dsimp only
  split
  · exact State.chan_setChan_same _ _ _
  · exact State.chan_setChan_same _ _ _

theorem changes_admitChannel {s t : State} {ch : Ch} (h : ChanChanges i s ch (s.chan ch) (t.chan ch))
    (others : ∀ x, x ≠ ch → t.chan x = s.chan x) (hl : s.AdmissionKept → (t.chan ch).st ≠ .locked) (x : Ch) :
    ChanChanges i s x (s.chan x) ((t.admitChannel ch).chan x) := by
  by_cases e : x = ch
  · subst e
    obtain ⟨m, vavg, n, entered⟩ := chan_admitChannel_same t x
    rw [entered]
    refine (h.trans (ChanChange.stamp m).changes).trans (ChanChange.enters ?_).changes
    exact hl
  · rw [othersKept_admitChannel t ch x e, others x e]
    exact (ChanChange.stamp _).changes

theorem changes_leaveTo {s t : State} {ch : Ch} {dest : ChState}
    (h : ChanChanges i s ch (s.chan ch) (t.chan ch)) (others : ∀ x, x ≠ ch → t.chan x = s.chan x)
    (hl : (t.chan ch).st ≠ .locked) (hd : dest = .off ∨ dest = .shed ∨ dest = .suspended) (x : Ch) :
    ChanChanges i s x (s.chan x) ((t.leaveTo ch dest).chan x) := by
  have rests : (t.chan ch).admitted = false →
      ChanChanges i s ch (s.chan ch) { t.chan ch with st := dest } := fun ha =>
    h.trans (ChanChange.rests ha hl (by rcases hd with e | e | e <;> simp [e])).changes
  have leaves : (t.chan ch).admitted = true →
      ChanChanges i s ch (s.chan ch) ((t.chan ch).leaveAdmitted dest) := fun ha =>
    h.trans (ChanChange.leaves ha hd).changes
  have written : ∀ (v : State) (c : Channel), (∀ y, y ≠ ch → v.chan y = s.chan y) →
      ChanChanges i s ch (s.chan ch) c → ChanChanges i s x (s.chan x) ((v.setChan ch c).chan x) := by
    intro v c hv hc
    rw [State.chan_setChan]
    split
    next e => subst e; exact hc
    next e => rw [hv x e]; exact .refl s x _
  unfold State.leaveTo
  dsimp only
  split
  next st => exact written _ _ others (rests (by simp [Channel.admitted, st]))
  next st => exact written _ _ others (leaves (by simp [Channel.admitted, st]))
  next st => exact written _ _ others (leaves (by simp [Channel.admitted, st]))
  next hr ho => exact written _ _ others (rests ((Channel.not_admitted_iff _).mpr ⟨hr, ho⟩))

/-- What a fine change does to each channel's record. -/
theorem Fine.changes {s t : State} (h : Fine i s t) (x : Ch) :
    ChanChanges i s x (s.chan x) (t.chan x) := by
  have told_other : ∀ {ch : Ch} {c : Channel} (y : Ch), y ≠ ch → (s.setChan ch c).chan y = s.chan y :=
    fun {ch c} y hy => by rw [State.chan_setChan, if_neg hy]
  have told_same : ∀ {ch : Ch} {c : Channel}, Told s ch c →
      ChanChanges i s ch (s.chan ch) ((s.setChan ch c).chan ch) :=
    fun hc => by rw [State.chan_setChan_same]; exact hc.changes
  cases h with
  | own => exact .refl s x _
  | disown => exact .refl s x _
  | bridge => exact .refl s x _
  | trip ha => exact changes_setChan (s := s) (ChanChange.trip ha).changes x
  | edit h =>
    cases h with
    | other h => exact .of_chans (by rw [h]) x
    | ports h => exact .of_chans h.chans x
    | unit => exact .refl s x _
    | budgets => exact .refl s x _
    | record => exact changes_setChan ChanChange.record.changes x
    | sample h => exact changes_setChan (ChanChange.sample h).changes x
    | marks h => exact changes_setChan (ChanChange.marks h).changes x
    | intervals =>
      have woken : ({ s with chans := mapChannels Channel.wake s.chans } : State).chan x = (s.chan x).wake :=
        mapChannels_get _ _ _
      rw [woken]
      exact (ChanChange.marks (c := s.chan x) le_rfl).changes
    | period ha ht => exact changes_setChan (ChanChange.period ha ht).changes x
    | cleared h => exact changes_setChan (ChanChange.cleared h).changes x
    | profile hoff hp hn => exact changes_setChan (ChanChange.profile hoff hp hn).changes x
    | leave hc hl hd =>
      refine changes_leaveTo (told_same hc) told_other (by rwa [State.chan_setChan_same]) ?_ x
      rcases hd with ⟨e, -⟩ | ⟨e | e, -⟩ <;> simp [e]
    | @place ch c hc hst =>
      rw [State.chan_place]
      split
      next e =>
        subst e
        refine (told_same hc).trans (ChanChange.rests ?_ ?_ (.inr (.inl rfl))).changes <;>
          rw [State.chan_setChan_same] <;> rcases hst with e | e | e | e <;> simp [Channel.admitted, e]
      next e => rw [told_other x e]; exact .refl s x _
    | bypass hc hst =>
      refine changes_admitChannel (told_same hc) told_other (fun _ => ?_) x
      rw [State.chan_setChan_same]
      rcases hst with e | e | e <;> simp [e]
    | @head f e rest hq =>
      refine changes_admitChannel (t := s.setUnit f _) (.refl s _ _) (fun _ _ => rfl) (fun kept => ?_) x
      have waits := ((kept.1 f).1.1 e (by rw [hq]; exact List.mem_cons_self)).2.1
      simp [waits]
    | trip hbr ha => exact changes_setChan (s := s) (ChanChange.trip ha).changes x
    | window h => exact changes_setChan (ChanChange.window h).changes x
    | put => exact .refl s x _
    | amend => exact .refl s x _
    | mark => exact .refl s x _
    | bridge => exact .refl s x _
    | clearDemands =>
      have cleared : s.clearDemands.chan x = (s.chan x).softReset := mapChannels_get _ _ _
      rw [cleared]
      exact ChanChange.softReset.changes

/-- A property of each channel's record that every change of it keeps. -/
theorem Fine.keeps_chan {P : Channel → Prop} {s t : State} {ch : Ch}
    (change : ∀ c d, ChanChange i s ch c d → P c → P d) (h : Fine i s t) (hs : P (s.chan ch)) :
    P (t.chan ch) := by
  generalize t.chan ch = c, h.changes ch = changes
  induction changes with
  | refl => exact hs
  | tail _ last ih => exact change _ _ last ih

end Sys2Proof.Machine
end

section
/-!
PROOF. A millisecond, record by record, and the ranges of queues, heat values, duties and periods.
-/
namespace Sys2Proof.Machine

variable {i : Instr}

/-! ### A millisecond, record by record -/

theorem State.chan_tick (s : State) (ch : Ch) :
    s.tick.chan ch = s.chan ch ∨ s.tick.chan ch = (s.chan ch).tick (s.conducts ch) := by
  unfold State.tick
  split
  · split
    · right; simp [State.chan, State.tickActive, State.tickLinks]
    · exact .inl rfl
  · exact .inl rfl

theorem State.slot_tick (s : State) (ch : Ch) (cl : Client) :
    s.tick.slot ch cl = s.slot ch cl ∨ s.tick.slot ch cl = (s.slot ch cl).map Entry.tick := by
  unfold State.tick
  split
  · split
    · right
      have row : (mapChannels tickSlots s.demand)[ch] = tickSlots s.demand[ch] := mapChannels_get _ _ _
      change ((mapChannels tickSlots s.demand)[ch]).get cl = _
      rw [row]
      exact PerClient.get_map _ _ _
    · exact .inl rfl
  · exact .inl rfl

theorem State.unit_tick (s : State) (f : Feed) :
    s.tick.unit f = s.unit f ∨ s.tick.unit f = (s.unit f).tick := by
  unfold State.tick
  split
  · split
    · exact .inr (Pair.get_map _ _ _)
    · exact .inl rfl
  · exact .inl rfl

theorem State.bridge_tick (s : State) (br : Bridge) : s.tick.bridge br = s.bridge br ∨
    s.tick.bridge br = (s.bridge br).tick (s.bridgeProfile br).deadt := by
  unfold State.tick
  split
  · split
    · exact .inr (by cases br <;> rfl)
    · exact .inl rfl
  · exact .inl rfl

theorem State.port_tick_queue (s : State) (p : Port) : (s.tick.port p).queue = (s.port p).queue := by
  unfold State.tick
  split
  · split <;> cases p <;> rfl
  · rfl

theorem State.tick_powered (s : State) : s.tick.powered = s.powered := by
  unfold State.tick
  split
  · split <;> rfl
  · rfl

/-! ### Queues (R146) -/

theorem Fine.bounded {s t : State} (h : Fine i s t) (hs : s.QueuesBounded) : t.QueuesBounded := by
  have same : ∀ {u : State}, u.ports = s.ports → u.QueuesBounded := fun e p => by
    unfold State.port; rw [e]; exact hs p
  have admission : ∀ {v u : State}, v.ports = s.ports → OnlyAdmission v u → u.QueuesBounded :=
    fun e h => same (h.ports.trans e)
  cases h with
  | own => exact same rfl
  | disown => exact same rfl
  | bridge => exact same rfl
  | trip => exact same rfl
  | edit h =>
    cases h with
    | other h => exact same (by rw [h])
    | ports _ hq => exact hq hs
    | leave => exact admission (v := s.setChan _ _) rfl (only_leaveTo _ _ _)
    | bypass => exact admission (v := s.setChan _ _) rfl (only_admit _ _)
    | head => exact admission (v := s.setUnit _ _) rfl (only_admit _ _)
    | clearDemands =>
      intro p
      have emptied : (s.clearDemands.port p).queue = [] := by cases p <;> rfl
      rw [emptied]
      exact Nat.zero_le _
    | unit => exact same rfl
    | budgets => exact same rfl
    | record => exact same rfl
    | sample => exact same rfl
    | marks => exact same rfl
    | intervals => exact same rfl
    | period => exact same rfl
    | cleared => exact same rfl
    | profile => exact same rfl
    | place => exact same rfl
    | trip => exact same rfl
    | window => exact same rfl
    | put => exact same rfl
    | amend => exact same rfl
    | mark => exact same rfl
    | bridge => exact same rfl

theorem queuesBounded_powerOn (zone : Fin 4) : (State.powerOn zone).QueuesBounded := fun p => by
  cases p <;> exact Nat.zero_le _

theorem queuesBounded_kept : Kept State.QueuesBounded where
  frame _ _ _ h := h
  powerOn := queuesBounded_powerOn
  free _ _ h := h
  tick s h p := by rw [s.port_tick_queue]; exact h p
  fine _ _ _ h hs := h.bounded hs

/-! ### Heat values (R73 to R78) -/

/-- What `State.HeatInRange` says of one channel. -/
def HeatOk (t : ChannelType) (c : Channel) : Prop := c.q ≤ 1024000000 ∧ c.profile.rated ≤ t.ratedMax

theorem heatUpdate_le (tau i q : Nat) : heatUpdate tau i q ≤ max q (i * i * 256) := by
  unfold heatUpdate
  have pos : (0 : Int) < (2 ^ tau : Nat) := by positivity
  rcases Nat.le_total q (i * i * 256) with le | le
  · have step : ((i * i * 256 : Nat) - (q : Int)) / (2 ^ tau : Nat) ≤ (i * i * 256 : Nat) - (q : Int) :=
      Int.ediv_le_self _ (by omega)
    omega
  · have step : ((i * i * 256 : Nat) - (q : Int)) / (2 ^ tau : Nat) ≤ 0 :=
      Int.ediv_nonpos_of_nonpos_of_neg (by omega) pos
    omega

theorem fullScale_le (t : ChannelType) : t.fullScale ≤ 1500 := by cases t <;> decide

theorem ratedMax_le (t : ChannelType) : t.ratedMax ≤ 400 := by cases t <;> decide

theorem qAfterTrip_le {t : ChannelType} {c : Channel} (h : HeatOk t c) (cause : TripCause) :
    c.qAfterTrip cause ≤ 1024000000 := by
  obtain ⟨q, rated⟩ := h
  have square : c.profile.rated * c.profile.rated ≤ 400 * 400 :=
    Nat.mul_le_mul (rated.trans (ratedMax_le t)) (rated.trans (ratedMax_le t))
  unfold Channel.qAfterTrip Channel.ltrip
  split <;> omega

theorem ChanChange.heatOk {s : State} {ch : Ch} {c d : Channel} (h : ChanChange i s ch c d)
    (hc : HeatOk (typeOf ch) c) : HeatOk (typeOf ch) d := by
  cases h with
  | @sample rms onCur h =>
    have square : rms * rms ≤ 1500 * 1500 :=
      Nat.mul_le_mul (h.trans (fullScale_le _)) (h.trans (fullScale_le _))
    have le := heatUpdate_le c.profile.tau rms c.q
    have q := hc.1
    exact ⟨by change heatUpdate _ _ _ ≤ _; omega, hc.2⟩
  | profile _ hp => exact ⟨hc.1, hp.rated hc.2⟩
  | trip => exact ⟨qAfterTrip_le hc _, hc.2⟩
  | enters =>
    unfold Channel.enterRamping
    dsimp only
    split <;> exact hc
  | softReset =>
    unfold Channel.softReset
    dsimp only
    split <;> exact hc
  | stamp => exact hc
  | record => exact hc
  | marks => exact hc
  | period => exact hc
  | cleared => exact hc
  | rests => exact hc
  | leaves => exact hc
  | window => exact hc

theorem rated_powerOn (ch : Ch) : (Profile.powerOn ch).rated ≤ (typeOf ch).ratedMax := by
  revert ch; decide

theorem heatInRange_powerOn (zone : Fin 4) : (State.powerOn zone).HeatInRange := fun ch => by
  rw [State.chan_powerOn]
  exact ⟨Nat.zero_le _, rated_powerOn ch⟩

theorem heatInRange_kept : Kept State.HeatInRange where
  frame _ _ _ h := h
  powerOn := heatInRange_powerOn
  free _ _ h := h
  tick s h ch := by rcases s.chan_tick ch with e | e <;> rw [e] <;> exact h ch
  fine _ _ _ h hs ch := h.keeps_chan (P := HeatOk (typeOf ch)) (fun _ _ => ChanChange.heatOk) (hs ch)

/-! ### Duties (R35, R37, R97) -/

/-- What `State.DutiesInRange` says of one channel. -/
def DutiesOk (c : Channel) : Prop := c.pending ≤ 1000 ∧ c.applied ≤ 1000 ∧ c.profile.bindDuty ≤ 1000

theorem Entry.momentary_le (groups : Pair FlashGroup) (e : Entry) : e.momentary groups ≤ e.fullDuty := by
  cases e with
  | flash d g n r started held =>
    unfold Entry.momentary
    dsimp only
    split
    · exact le_rfl
    · exact Nat.zero_le _
  | steady => exact le_rfl
  | timed => exact le_rfl
  | inhibit => exact le_rfl
  | drive => exact le_rfl

theorem foldl_max_le {n : Nat} : ∀ (l : List Nat) (m : Nat), m ≤ n → (∀ x ∈ l, x ≤ n) → l.foldl max m ≤ n
  | [], _, hm, _ => hm
  | x :: l, m, hm, h => foldl_max_le l (max m x) (max_le hm (h x List.mem_cons_self)) fun y hy =>
      h y (List.mem_cons_of_mem _ hy)

theorem State.DutiesInRange.combined {s : State} (h : s.DutiesInRange) (ch : Ch) :
    (s.combined ch).duty ≤ 1000 := by
  unfold State.combined
  dsimp only
  split
  · exact Nat.zero_le _
  · refine foldl_max_le _ _ (Nat.zero_le _) fun n hn => ?_
    obtain ⟨e, he, rfl⟩ := List.mem_map.mp hn
    obtain ⟨cl, hcl⟩ := (mem_entries_iff s ch e).mp he
    exact (e.momentary_le _).trans ((h ch).2.2.2 cl e hcl)

theorem ChanChange.dutiesOk {s : State} {ch : Ch} {c d : Channel} (h : ChanChange i s ch c d)
    (hd : (s.combined ch).duty ≤ 1000) (hc : DutiesOk c) : DutiesOk d := by
  obtain ⟨pending, applied, bind⟩ := hc
  cases h with
  | record =>
    refine ⟨hd, ?_, bind⟩
    unfold Channel.record
    dsimp only
    split
    · exact hd
    · exact applied
  | period => exact ⟨pending, (appliedDuty_le _ _ _ _).trans pending, bind⟩
  | profile _ hp => exact ⟨pending, applied, hp.bindDuty bind⟩
  | trip => exact ⟨pending, Nat.zero_le _, bind⟩
  | leaves => exact ⟨pending, Nat.zero_le _, bind⟩
  | enters =>
    unfold Channel.enterRamping
    dsimp only
    split
    · exact ⟨pending, pending, bind⟩
    · exact ⟨pending, (appliedDuty_le _ _ _ _).trans pending, bind⟩
  | softReset =>
    refine ⟨Nat.zero_le _, Nat.zero_le _, ?_⟩
    unfold Channel.softReset
    dsimp only
    split <;> exact bind
  | stamp => exact ⟨pending, applied, bind⟩
  | sample => exact ⟨pending, applied, bind⟩
  | marks => exact ⟨pending, applied, bind⟩
  | cleared => exact ⟨pending, applied, bind⟩
  | rests => exact ⟨pending, applied, bind⟩
  | window => exact ⟨pending, applied, bind⟩

theorem slot_clearDemands (s : State) (ch : Ch) (cl : Client) : s.clearDemands.slot ch cl = none := by
  have row : (Vector.replicate 16 emptySlots)[ch] = emptySlots := Vector.getElem_replicate _
  change ((Vector.replicate 16 emptySlots)[ch]).get cl = none
  rw [row]
  cases cl <;> rfl

theorem owner_setBridge {s : State} {br : Bridge} {r : BridgeRecord} (h : r.owner = (s.bridge br).owner)
    (x : Bridge) : ((s.setBridge br r).bridge x).owner = (s.bridge x).owner := by
  rw [State.bridge_setBridge]
  split
  next e => rw [h, e]
  next => rfl

theorem State.owner_startBridge (s : State) (br x : Bridge) :
    ((s.startBridge br).bridge x).owner = (s.bridge x).owner := by
  refine owner_setBridge ?_ x
  rfl

theorem State.owner_enterRamping (s : State) (ch : Ch) (n : Nat) (br : Bridge) :
    ((s.enterRamping ch n).bridge br).owner = (s.bridge br).owner := by
  unfold State.enterRamping
  dsimp only
  split
  · exact State.owner_startBridge _ _ br
  · rfl

theorem bridges_renumber (s : State) (f : Feed) : (s.renumber f).bridges = s.bridges :=
  only_overChannels (R := fun u v => v.bridges = u.bridges)
    (f := fun ch t => t.setChan ch { t.chan ch with stamp := some (s.renumbered f ch) })
    (fun _ => rfl) (fun h k => k.trans h) (fun _ _ => rfl) s (s.admittedOf f)

theorem bridges_countAdmission (s : State) (f : Feed) : (s.countAdmission f).bridges = s.bridges := by
  unfold State.countAdmission
  dsimp only
  split
  · rfl
  · exact bridges_renumber s f

theorem State.owner_admitChannel (s : State) (ch : Ch) (br : Bridge) :
    ((s.admitChannel ch).bridge br).owner = (s.bridge br).owner := by
  have counted : ((s.addClaims ch).countAdmission (feedOf ch)).bridge br = s.bridge br := by
    unfold State.bridge; rw [bridges_countAdmission]; rfl
  unfold State.admitChannel
  rw [State.owner_enterRamping, counted]

theorem State.bridges_leaveTo (s : State) (ch : Ch) (dest : ChState) :
    (s.leaveTo ch dest).bridges = s.bridges := by
  unfold State.leaveTo
  dsimp only
  split <;> rfl

/-- An edit writes one slot, clears the table, or leaves entries and owners as they are. -/
theorem Edit.demand_cases {s t : State} (h : Edit i s t) :
    (t.demand = s.demand ∧ ∀ br, (t.bridge br).owner = (s.bridge br).owner) ∨ t = s.clearDemands ∨
    (∃ ch cl e, e.isDrive = false ∧ (s.OwnersKept → bridgeOf ch = none) ∧
      (s.DutiesInRange → e.fullDuty ≤ 1000) ∧ t = s.setSlot ch cl (some e)) ∨
    (∃ ch cl e o, s.slot ch cl = some e ∧ (s.OwnersKept → e.isDrive = false) ∧
      (∀ e', o = some e' → e'.isDrive = false ∧ e'.fullDuty ≤ e.fullDuty) ∧ t = s.setSlot ch cl o) ∨
    ∃ ch cl dir n ending, s.slot ch cl = some (.drive dir n ending) ∧
      t = s.setSlot ch cl (some (.drive dir n true)) := by
  cases h with
  | clearDemands => exact .inr (.inl rfl)
  | @put ch cl e he hbr hd => exact .inr (.inr (.inl ⟨ch, cl, e, he, hbr, hd, rfl⟩))
  | @amend ch cl e o hs he ho => exact .inr (.inr (.inr (.inl ⟨ch, cl, e, o, hs, he, ho, rfl⟩)))
  | @mark ch cl dir n ending hs => exact .inr (.inr (.inr (.inr ⟨ch, cl, dir, n, ending, hs, rfl⟩)))
  | other h => exact .inl (by rw [h]; exact ⟨rfl, fun _ => rfl⟩)
  | ports h => exact .inl ⟨h.demand, fun br => by rw [h.bridge]⟩
  | @leave ch c dest =>
    exact .inl ⟨(only_leaveTo (s.setChan ch c) ch dest).demand, fun br => by
      unfold State.bridge; rw [State.bridges_leaveTo]; rfl⟩
  | @bypass ch c =>
    exact .inl ⟨(only_admit (s.setChan ch c) ch).demand, fun br => (State.owner_admitChannel _ ch br).trans rfl⟩
  | @head f e rest =>
    exact .inl ⟨(only_admit (s.setUnit f { s.unit f with queue := rest }) e.ch).demand,
      fun br => (State.owner_admitChannel _ e.ch br).trans rfl⟩
  | bridge ho => exact .inl ⟨rfl, owner_setBridge ho⟩
  | unit => exact .inl ⟨rfl, fun _ => rfl⟩
  | budgets => exact .inl ⟨rfl, fun _ => rfl⟩
  | record => exact .inl ⟨rfl, fun _ => rfl⟩
  | sample => exact .inl ⟨rfl, fun _ => rfl⟩
  | marks => exact .inl ⟨rfl, fun _ => rfl⟩
  | intervals => exact .inl ⟨rfl, fun _ => rfl⟩
  | period => exact .inl ⟨rfl, fun _ => rfl⟩
  | cleared => exact .inl ⟨rfl, fun _ => rfl⟩
  | profile => exact .inl ⟨rfl, fun _ => rfl⟩
  | place => exact .inl ⟨rfl, fun _ => rfl⟩
  | trip => exact .inl ⟨rfl, fun _ => rfl⟩
  | window => exact .inl ⟨rfl, fun _ => rfl⟩

theorem State.slot_congr {s t : State} (h : t.demand = s.demand) (ch : Ch) (cl : Client) :
    t.slot ch cl = s.slot ch cl := by
  unfold State.slot; rw [h]

/-- Every entry of the table asks for a per-mille duty. -/
def State.EntriesOk (s : State) : Prop := ∀ ch cl e, s.slot ch cl = some e → e.fullDuty ≤ 1000

theorem State.EntriesOk.setSlot {s : State} (h : s.EntriesOk) {ch : Ch} {cl : Client} {o : Option Entry}
    (ho : ∀ e, o = some e → e.fullDuty ≤ 1000) : (s.setSlot ch cl o).EntriesOk := fun x y e he => by
  rw [State.slot_setSlot] at he
  split at he
  · exact ho e he
  · exact h x y e he

theorem Fine.entriesOk {s t : State} (h : Fine i s t) (hs : s.DutiesInRange) : t.EntriesOk := by
  have ok : s.EntriesOk := fun ch => (hs ch).2.2.2
  cases h with
  | own => exact State.EntriesOk.setSlot (s := s) ok fun e he => by cases he; exact le_rfl
  | disown => exact State.EntriesOk.setSlot (s := s) (o := none) ok fun e he => nomatch he
  | bridge => exact ok
  | trip => exact ok
  | edit h =>
    rcases h.demand_cases with ⟨same, -⟩ | rfl | ⟨ch, cl, e, -, -, hd, rfl⟩ | ⟨ch, cl, e, o, at_, -, ho, rfl⟩ |
      ⟨ch, cl, dir, n, ending, -, rfl⟩
    · intro ch cl e he
      rw [State.slot_congr same] at he
      exact ok ch cl e he
    · intro ch cl e he
      rw [slot_clearDemands] at he
      exact nomatch he
    · exact ok.setSlot fun e' he => by cases he; exact hd hs
    · exact ok.setSlot fun e' he => (ho e' he).2.trans (ok ch cl e at_)
    · exact ok.setSlot fun e' he => by cases he; exact le_rfl

theorem Entry.tick_fullDuty (e : Entry) : e.tick.fullDuty = e.fullDuty := by
  cases e with
  | timed d remaining ms =>
    unfold Entry.tick
    dsimp only
    split <;> rfl
  | steady => rfl
  | flash => rfl
  | inhibit => rfl
  | drive => rfl

theorem slot_powerOn (zone : Fin 4) (ch : Ch) (cl : Client) : (State.powerOn zone).slot ch cl = none := by
  have row : (Vector.replicate 16 emptySlots)[ch] = emptySlots := Vector.getElem_replicate _
  change ((Vector.replicate 16 emptySlots)[ch]).get cl = none
  rw [row]
  cases cl <;> rfl

theorem bindDuty_powerOn (ch : Ch) : (Profile.powerOn ch).bindDuty ≤ 1000 := by
  revert ch; decide

theorem dutiesInRange_powerOn (zone : Fin 4) : (State.powerOn zone).DutiesInRange := fun ch => by
  rw [State.chan_powerOn]
  exact ⟨Nat.zero_le _, Nat.zero_le _, bindDuty_powerOn ch, fun cl e he => by
    rw [slot_powerOn] at he; exact nomatch he⟩

theorem dutiesInRange_of {s : State} (chans : ∀ ch, DutiesOk (s.chan ch))
    (slots : s.EntriesOk) : s.DutiesInRange := fun ch =>
  ⟨(chans ch).1, (chans ch).2.1, (chans ch).2.2, slots ch⟩

theorem State.DutiesInRange.chan {s : State} (h : s.DutiesInRange) (ch : Ch) : DutiesOk (s.chan ch) :=
  ⟨(h ch).1, (h ch).2.1, (h ch).2.2.1⟩

theorem dutiesInRange_kept : Kept State.DutiesInRange where
  frame _ _ _ h := h
  powerOn := dutiesInRange_powerOn
  free _ _ h := h
  tick s h := by
    refine dutiesInRange_of (fun ch => ?_) fun ch cl e he => ?_
    · rcases s.chan_tick ch with e | e <;> rw [e] <;> exact h.chan ch
    · rcases s.slot_tick ch cl with k | k <;> rw [k] at he
      · exact (h ch).2.2.2 cl e he
      · obtain ⟨e₀, h₀, rfl⟩ := Option.map_eq_some_iff.mp he
        rw [Entry.tick_fullDuty]
        exact (h ch).2.2.2 cl e₀ h₀
  fine _ _ _ h hs := dutiesInRange_of
    (fun ch => h.keeps_chan (P := DutiesOk) (fun _ _ k => k.dutiesOk (hs.combined ch)) (hs.chan ch))
    (h.entriesOk hs)

/-! ### Periods (R7, R89 to R100) -/

/-- What `State.PeriodsKept` says of one channel's period, period timer and on-time. -/
def PeriodOk (t : ChannelType) (c : Channel) : Prop :=
  match t.periodRange with
  | none => c.profile.period = none ∧ c.periodTimer = none
  | some range => ∃ period, c.profile.period = some period ∧ range.1 ≤ period ∧ period ≤ range.2 ∧
    c.onTime ≤ period ∧
    match c.periodTimer with
    | none => c.admitted = false
    | some t => c.admitted = true ∧ t.pos < period

/-- What `State.PeriodsKept` says of one channel. -/
def PeriodKept (t : ChannelType) (c : Channel) : Prop :=
  (c.admitted = false → c.applied = 0 ∧ c.onTime = 0) ∧ PeriodOk t c

theorem periodRange_eq_none_iff (t : ChannelType) : t.periodRange = none ↔ t = .bridge := by
  cases t <;> decide

theorem tmin_pos {t : ChannelType} (h : t ≠ .bridge) : 0 < t.tmin := by
  cases t with
  | bridge => exact absurd rfl h
  | lamp => decide
  | heater => decide
  | fan => decide

theorem period_pos {t : ChannelType} {range : Nat × Nat} (h : t.periodRange = some range) : 0 < range.1 := by
  cases t <;> cases h <;> decide

theorem onTimeOf_le {tmin : Nat} (pos : 0 < tmin) (period duty : Nat) : onTimeOf tmin period duty ≤ period := by
  unfold onTimeOf
  dsimp only
  split
  · exact le_rfl
  · split
    · exact Nat.zero_le _
    · split <;> split <;> omega

theorem PeriodOk.timer {t : ChannelType} {c : Channel} (h : PeriodOk t c) (ha : c.admitted = false) :
    c.periodTimer = none := by
  unfold PeriodOk at h
  split at h
  · exact h.2
  · obtain ⟨period, -, -, -, -, timer⟩ := h
    split at timer
    next e => exact e
    next => rw [ha] at timer; exact absurd timer.1 (by decide)

/-- The claims about a period read profile, timer, on-time and whether the channel is admitted. -/
theorem PeriodOk.congr {t : ChannelType} {c d : Channel} (h : PeriodOk t c) (hp : d.profile = c.profile)
    (ht : d.periodTimer = c.periodTimer) (ho : d.onTime = c.onTime) (ha : d.admitted = c.admitted) :
    PeriodOk t d := by
  unfold PeriodOk at h ⊢
  rw [hp, ht, ho, ha]
  exact h

theorem PeriodOk.stopped {t : ChannelType} {c d : Channel} (h : PeriodOk t c) (hp : d.profile = c.profile)
    (ht : d.periodTimer = none) (ho : d.onTime = 0) (ha : d.admitted = false) : PeriodOk t d := by
  unfold PeriodOk at h ⊢
  rw [hp, ht, ho, ha]
  split at h
  · exact ⟨h.1, rfl⟩
  · obtain ⟨period, eq, low, high, -, -⟩ := h
    exact ⟨period, eq, low, high, Nat.zero_le _, rfl⟩

theorem PeriodKept.stopped {t : ChannelType} {c d : Channel} (h : PeriodKept t c) (hp : d.profile = c.profile)
    (ht : d.periodTimer = none) (ho : d.onTime = 0) (hd : d.applied = 0) (ha : d.admitted = false) :
    PeriodKept t d :=
  ⟨fun _ => ⟨hd, ho⟩, h.2.stopped hp ht ho ha⟩

theorem periodKept_latch {t : ChannelType} {c d : Channel} (vavg pos : Nat) (ha : d.admitted = true)
    (hp : d.profile = c.profile) (ho : d.onTime = (c.latch t vavg).onTime) (ht : t ≠ .bridge)
    (timer : d.periodTimer = some ⟨pos, d.periodTimer.elim 0 PeriodTimer.starts⟩)
    (low : ∀ period, c.profile.period = some period → 0 < period → pos < period)
    (h : PeriodOk t c) : PeriodKept t d := by
  refine ⟨fun k => absurd (ha.symm.trans k) (by decide), ?_⟩
  unfold PeriodOk at h ⊢
  split at h
  next none => exact absurd ((periodRange_eq_none_iff t).mp none) ht
  next range eq =>
    obtain ⟨period, hperiod, le, ge, -, -⟩ := h
    refine ⟨period, hp ▸ hperiod, le, ge, ?_, ?_⟩
    · rw [ho]
      unfold Channel.latch
      rw [hperiod]
      exact onTimeOf_le (tmin_pos ht) _ _
    · rw [timer]
      exact ⟨ha, low period hperiod ((period_pos eq).trans_le le)⟩

theorem PeriodKept.enterRamping {t : ChannelType} {c : Channel} (vavg n : Nat) (h : PeriodKept t c) :
    PeriodKept t (c.enterRamping t vavg n) := by
  unfold Channel.enterRamping
  dsimp only
  split
  next bridge =>
    refine ⟨fun k => absurd k (by simp [Channel.admitted]), ?_⟩
    have ok := h.2
    unfold PeriodOk at ok ⊢
    rw [(periodRange_eq_none_iff t).mpr bridge] at ok ⊢
    exact ok
  next other =>
    exact periodKept_latch (c := c) vavg 0 (by simp [Channel.latch, Channel.admitted]) rfl rfl other rfl
      (fun _ _ pos => pos) h.2

theorem PeriodKept.startPeriod {t : ChannelType} {c : Channel} (vavg : Nat) (ha : c.admitted = true)
    (ht : c.periodTimer ≠ none) (h : PeriodKept t c) : PeriodKept t (c.startPeriod t vavg) := by
  obtain ⟨timer, eq⟩ := Option.ne_none_iff_exists'.mp ht
  have other : t ≠ .bridge := fun bridge => by
    have ok := h.2
    unfold PeriodOk at ok
    rw [(periodRange_eq_none_iff t).mpr bridge] at ok
    exact ht ok.2
  refine periodKept_latch (c := c) vavg timer.pos ha rfl rfl other ?_ ?_ h.2
  · simp [Channel.startPeriod, Channel.latch, eq]
  · intro period hperiod _
    have ok := h.2
    unfold PeriodOk at ok
    split at ok
    next none => exact absurd ok.2 ht
    next =>
      obtain ⟨p, hp, -, -, -, kept⟩ := ok
      rw [eq] at kept
      rw [hperiod] at hp
      cases hp
      exact kept.2

theorem PeriodKept.writeProfile {ch : Ch} {c : Channel} {p : Profile} (d : Bool) (n : Nat) (hoff : c.st = .off)
    (hp : ProfileKeeps ch c.profile p) (h : PeriodKept (typeOf ch) c) :
    PeriodKept (typeOf ch) { c with profile := p, default := d, tripCount := n } := by
  have resting : c.admitted = false := by simp [Channel.admitted, hoff]
  have timer := h.2.timer resting
  have onTime := (h.1 resting).2
  refine ⟨h.1, ?_⟩
  have ok := h.2
  unfold PeriodOk at ok ⊢
  dsimp only
  rw [timer, onTime]
  split at ok
  next none => exact ⟨hp.noPeriod none ok.1, rfl⟩
  next range some =>
    obtain ⟨period, eq, low, high, -, -⟩ := ok
    obtain ⟨m, eq', low', high'⟩ := hp.period range period some eq low high
    exact ⟨m, eq', low', high', Nat.zero_le _, resting⟩

theorem PeriodKept.softReset {t : ChannelType} {c : Channel} (h : PeriodKept t c) : PeriodKept t c.softReset := by
  have resting : c.admitted = false → c.periodTimer = none ∧ c.onTime = 0 := fun ha =>
    ⟨h.2.timer ha, (h.1 ha).2⟩
  unfold Channel.softReset
  dsimp only
  split
  next st =>
    have off : c.admitted = false := by simp [Channel.admitted, st]
    exact h.stopped rfl (resting off).1 (resting off).2 rfl off
  next st =>
    have off : c.admitted = false := by simp [Channel.admitted, st]
    exact h.stopped rfl (resting off).1 (resting off).2 rfl off
  next st =>
    have off : c.admitted = false := by simp [Channel.admitted, st]
    exact h.stopped rfl (resting off).1 (resting off).2 rfl off
  next => exact h.stopped rfl rfl rfl rfl rfl

theorem ChanChange.periodKept {s : State} {ch : Ch} {c d : Channel} (h : ChanChange i s ch c d)
    (hc : PeriodKept (typeOf ch) c) : PeriodKept (typeOf ch) d := by
  have rests : ∀ {x : Channel}, x.admitted = false → c.admitted = false → x.profile = c.profile →
      x.periodTimer = c.periodTimer → x.onTime = c.onTime → x.applied = c.applied →
      PeriodKept (typeOf ch) x := fun hx ha hp ht ho hd =>
    hc.stopped hp (ht.trans (hc.2.timer ha)) (ho.trans (hc.1 ha).2) (hd.trans (hc.1 ha).1) hx
  cases h with
  | record =>
    refine ⟨fun ha => ?_, hc.2⟩
    have resting : c.admitted = false := ha
    refine ⟨?_, (hc.1 resting).2⟩
    change (if typeOf ch = .bridge && c.admitted then _ else c.applied) = 0
    rw [resting, Bool.and_false, if_neg (by decide)]
    exact (hc.1 resting).1
  | period ha ht => exact hc.startPeriod _ ha ht
  | profile hoff hp => exact hc.writeProfile _ _ hoff hp
  | enters => exact hc.enterRamping _ _
  | leaves ha hd =>
    refine hc.stopped rfl rfl rfl rfl ?_
    rcases hd with e | e | e <;> simp [Channel.leaveAdmitted, Channel.admitted, e]
  | trip ha =>
    refine hc.stopped rfl rfl rfl rfl ?_
    change ({ c with st := c.tripState } : Channel).admitted = false
    unfold Channel.tripState
    split <;> rfl
  | rests ha hl hd =>
    refine rests ?_ ha rfl rfl rfl rfl
    rcases hd with e | e | e | e <;> simp [Channel.admitted, e]
  | cleared =>
    by_cases locked : c.st = .locked
    · exact rests (by simp [Channel.clear, Channel.admitted, locked]) (by simp [Channel.admitted, locked])
        rfl rfl rfl rfl
    · have same : c.clear.admitted = c.admitted := by simp [Channel.clear, Channel.admitted, locked]
      exact ⟨fun ha => hc.1 (same ▸ ha), hc.2.congr rfl rfl rfl same⟩
  | window h =>
    have ramping : c.admitted = true := by simp [Channel.admitted, h]
    refine ⟨fun ha => absurd ha (by simp [Channel.admitted]), hc.2.congr rfl rfl rfl ?_⟩
    rw [ramping]
    simp [Channel.admitted]
  | softReset => exact hc.softReset
  | stamp => exact hc
  | sample => exact hc
  | marks => exact hc

theorem PeriodKept.tick {t : ChannelType} {c : Channel} (conducts : Bool) (h : PeriodKept t c) :
    PeriodKept t (c.tick conducts) := by
  refine ⟨h.1, ?_⟩
  have ok := h.2
  unfold PeriodOk at ok ⊢
  split at ok
  next none => exact ⟨ok.1, by unfold Channel.tick; rw [ok.2]; rfl⟩
  next range some =>
    obtain ⟨period, eq, low, high, le, timer⟩ := ok
    refine ⟨period, eq, low, high, le, ?_⟩
    unfold Channel.tick
    dsimp only
    split at timer
    next none => rw [none]; exact timer
    next p some' =>
      rw [some', eq]
      exact ⟨timer.1, PeriodTimer.tick_pos_lt period p ((period_pos some).trans_le low)⟩

theorem periodsKept_iff (s : State) : s.PeriodsKept ↔ ∀ ch, PeriodKept (typeOf ch) (s.chan ch) := Iff.rfl

theorem periodKept_powerOn (ch : Ch) : PeriodKept (typeOf ch) (Channel.powerOn ch) := by
  refine ⟨fun _ => ⟨rfl, rfl⟩, ?_⟩
  unfold PeriodOk Channel.powerOn Profile.powerOn
  cases typeOf ch <;> simp [ChannelType.periodRange, Channel.admitted]

theorem periodsKept_powerOn (zone : Fin 4) : (State.powerOn zone).PeriodsKept :=
  (periodsKept_iff _).mpr fun ch => by rw [State.chan_powerOn]; exact periodKept_powerOn ch

theorem periodsKept_kept : Kept State.PeriodsKept where
  frame _ _ _ h := h
  powerOn := periodsKept_powerOn
  free _ _ h := h
  tick s h := (periodsKept_iff _).mpr fun ch => by
    rcases s.chan_tick ch with e | e <;> rw [e]
    · exact h ch
    · exact PeriodKept.tick _ (h ch)
  fine _ _ _ h hs := (periodsKept_iff _).mpr fun ch =>
    h.keeps_chan (P := PeriodKept (typeOf ch)) (fun _ _ => ChanChange.periodKept) (hs ch)

/-- Settles O55: each of the four ranges holds after a power-on reset and is kept by a millisecond and by
every single change of a command. -/
theorem stepKeepsTheRanges : Obligations.StepKeepsTheRanges := by
  unfold Obligations.StepKeepsTheRanges
  intro s t hstep
  exact ⟨queuesBounded_kept.step hstep, heatInRange_kept.step hstep, dutiesInRange_kept.step hstep,
    periodsKept_kept.step hstep⟩

end Sys2Proof.Machine
end

section
/-!
PROOF. The admission units in agreement with the channels, and the budgets (R53, R54, R59): one lemma for a
change of one channel's claims and place, used by each edit that makes one.
-/
namespace Sys2Proof.Machine

variable {i : Instr}

/-! ### Claims of a channel -/

/-- A channel's claim and place are a matter of its state and its profile. -/
def SamePlace (c d : Channel) : Prop := d.st = c.st ∧ d.profile = c.profile

theorem SamePlace.refl (c : Channel) : SamePlace c c := ⟨rfl, rfl⟩

theorem SamePlace.trans {c d e : Channel} (h : SamePlace c d) (k : SamePlace d e) : SamePlace c e :=
  ⟨k.1.trans h.1, k.2.trans h.2⟩

theorem SamePlace.presentClaim {c d : Channel} (h : SamePlace c d) : d.presentClaim = c.presentClaim := by
  unfold Channel.presentClaim; rw [h.1, h.2]

theorem SamePlace.runClaim {c d : Channel} (h : SamePlace c d) : d.runClaim = c.runClaim := by
  unfold Channel.runClaim Channel.admitted; rw [h.1, h.2]

theorem Channel.presentClaim_of_resting {c : Channel} (h : c.admitted = false) : c.presentClaim = 0 := by
  obtain ⟨ramping, on⟩ := (Channel.not_admitted_iff c).mp h
  unfold Channel.presentClaim
  split
  next e => exact absurd e ramping
  next e => exact absurd e on
  next => rfl

theorem Channel.runClaim_of_resting {c : Channel} (h : c.admitted = false) : c.runClaim = 0 := by
  unfold Channel.runClaim; rw [h]; rfl

theorem Channel.runClaim_of_admitted {c : Channel} (h : c.admitted = true) : c.runClaim = c.profile.rclaim := by
  unfold Channel.runClaim; rw [h]; rfl

theorem Told.samePlace {s : State} {ch : Ch} {c : Channel} (h : Told s ch c) : SamePlace (s.chan ch) c := by
  rcases h with rfl | ⟨-, rfl⟩ <;> exact ⟨rfl, rfl⟩

/-! ### Sums of claims -/

theorem sum_map_change {α : Type} [DecidableEq α] {g g' : α → Nat} {a : α} : ∀ {l : List α}, l.Nodup → a ∈ l →
    (∀ x ∈ l, x ≠ a → g' x = g x) → (l.map g').sum + g a = (l.map g).sum + g' a
  | [], _, mem, _ => nomatch mem
  | x :: l, nodup, mem, same => by
    obtain ⟨notin, nodup'⟩ := List.nodup_cons.mp nodup
    rw [List.map_cons, List.map_cons, List.sum_cons, List.sum_cons]
    by_cases e : a = x
    · subst e
      have rest : l.map g' = l.map g := List.map_congr_left fun y hy =>
        same y (List.mem_cons_of_mem _ hy) fun k => notin (k ▸ hy)
      rw [rest]; omega
    · have mem' : a ∈ l := (List.mem_cons.mp mem).resolve_left e
      have ih := sum_map_change nodup' mem' fun y hy => same y (List.mem_cons_of_mem _ hy)
      have head := same x List.mem_cons_self fun k => e k.symm
      omega

theorem single_le_sum_map {α : Type} {g : α → Nat} {a : α} {l : List α} (mem : a ∈ l) : g a ≤ (l.map g).sum :=
  List.single_le_sum (fun _ _ => Nat.zero_le _) _ (List.mem_map_of_mem mem)

/-- A sum over the channels of a feed after a change of one channel. -/
theorem feedSum_change {g g' : Ch → Nat} {ch : Ch} (same : ∀ x, x ≠ ch → g' x = g x) :
    ((channelsOf (feedOf ch)).map g').sum + g ch = ((channelsOf (feedOf ch)).map g).sum + g' ch :=
  sum_map_change (channelsOf_nodup _) (mem_channelsOf.mpr rfl) fun x _ => same x

theorem feedSum_other {g g' : Ch → Nat} {ch : Ch} {f : Feed} (same : ∀ x, x ≠ ch → g' x = g x)
    (hf : f ≠ feedOf ch) : ((channelsOf f).map g').sum = ((channelsOf f).map g).sum := by
  congr 1
  refine List.map_congr_left fun x hx => same x fun e => hf ?_
  rw [← e]
  exact (mem_channelsOf.mp hx).symm

theorem feedSum_zero {g : Ch → Nat} {f : Feed} (h : ∀ x, feedOf x = f → g x = 0) :
    ((channelsOf f).map g).sum = 0 :=
  List.sum_eq_zero fun n hn => by
    obtain ⟨x, hx, rfl⟩ := List.mem_map.mp hn
    exact h x (mem_channelsOf.mp hx)

/-! ### Queues -/

/-- What `State.QueueKept` says of a queue. -/
def State.QueueAgrees (s : State) (f : Feed) (q : List QueueEntry) : Prop :=
  (∀ e ∈ q, feedOf e.ch = f ∧ (s.chan e.ch).st = .waiting ∧
    e.cls = (s.chan e.ch).profile.cls ∧ 1 ≤ e.cls ∧ e.cls ≤ 3) ∧
  (q.map fun e => e.ch).Nodup ∧
  q.Pairwise (fun x y => x.cls ≤ y.cls) ∧
  ∀ ch : Ch, feedOf ch = f → (s.chan ch).st = .waiting → ∃ e ∈ q, e.ch = ch

theorem queueAgrees_order {s : State} {f : Feed} {q q' : List QueueEntry} (h : queueOrder q' = queueOrder q)
    (k : s.QueueAgrees f q) : s.QueueAgrees f q' := by
  have places : ∀ e ∈ q', ∃ e₀ ∈ q, e₀.ch = e.ch ∧ e₀.cls = e.cls := fun e he => by
    have mem : (e.ch, e.cls) ∈ queueOrder q := h ▸ List.mem_map_of_mem he
    obtain ⟨e₀, h₀, eq⟩ := List.mem_map.mp mem
    exact ⟨e₀, h₀, congrArg Prod.fst eq, congrArg Prod.snd eq⟩
  obtain ⟨entries, nodup, sorted, all⟩ := k
  refine ⟨fun e he => ?_, ?_, ?_, fun ch hf hw => ?_⟩
  · obtain ⟨e₀, h₀, ech, ecls⟩ := places e he
    rw [← ech, ← ecls]
    exact entries e₀ h₀
  · have names : (q'.map fun e => e.ch) = q.map fun e => e.ch := by
      have := congrArg (List.map Prod.fst) h
      simpa [queueOrder, Function.comp_def] using this
    rwa [names]
  · have classes : (queueOrder q).Pairwise fun x y => x.2 ≤ y.2 := List.pairwise_map.mpr sorted
    rw [← h, queueOrder, List.pairwise_map] at classes
    exact classes
  · obtain ⟨e, he, hch⟩ := all ch hf hw
    have mem : (e.ch, e.cls) ∈ queueOrder q' := h ▸ List.mem_map_of_mem he
    obtain ⟨e', h', eq⟩ := List.mem_map.mp mem
    exact ⟨e', h', (congrArg Prod.fst eq).trans hch⟩

theorem queueAgrees_nil {s : State} {f : Feed} (h : ∀ ch, (s.chan ch).st ≠ .waiting) : s.QueueAgrees f [] :=
  ⟨fun _ he => absurd he List.not_mem_nil, List.nodup_nil, List.Pairwise.nil, fun ch _ hw => absurd hw (h ch)⟩

/-- A queue whose channels keep their places, and that no waiting channel has joined or left. -/
theorem queueAgrees_same {s t : State} {f : Feed} {q : List QueueEntry}
    (same : ∀ x, feedOf x = f → (s.chan x).st = .waiting ∨ (t.chan x).st = .waiting →
      SamePlace (s.chan x) (t.chan x)) (k : s.QueueAgrees f q) : t.QueueAgrees f q := by
  obtain ⟨entries, nodup, sorted, all⟩ := k
  refine ⟨fun e he => ?_, nodup, sorted, fun ch hf hw => ?_⟩
  · obtain ⟨hf, waits, cls, low, high⟩ := entries e he
    have place := same e.ch hf (.inl waits)
    exact ⟨hf, place.1.trans waits, by rw [place.2]; exact cls, low, high⟩
  · exact all ch hf ((same ch hf (.inr hw)).1 ▸ hw)

/-- A channel has left the queue. -/
theorem queueAgrees_left {s t : State} {f : Feed} {ch : Ch} {q q' : List QueueEntry}
    (others : ∀ x, x ≠ ch → SamePlace (s.chan x) (t.chan x)) (out : (t.chan ch).st ≠ .waiting)
    (sub : q'.Sublist q) (mem : ∀ e, e ∈ q' ↔ e ∈ q ∧ e.ch ≠ ch) (k : s.QueueAgrees f q) :
    t.QueueAgrees f q' := by
  obtain ⟨entries, nodup, sorted, all⟩ := k
  refine ⟨fun e he => ?_, nodup.sublist (sub.map _), sorted.sublist sub, fun x hf hw => ?_⟩
  · obtain ⟨he, ne⟩ := (mem e).mp he
    obtain ⟨hf, waits, cls, low, high⟩ := entries e he
    have place := others e.ch ne
    exact ⟨hf, place.1.trans waits, by rw [place.2]; exact cls, low, high⟩
  · have ne : x ≠ ch := fun e => out (e ▸ hw)
    obtain ⟨e, he, rfl⟩ := all x hf ((others x ne).1 ▸ hw)
    exact ⟨e, (mem e).mpr ⟨he, ne⟩, rfl⟩

/-- A channel has joined the queue of its feed behind its class (R54). -/
theorem queueAgrees_joined {s t : State} {ch : Ch} {q : List QueueEntry} {delay : Option Nat}
    (others : ∀ x, x ≠ ch → SamePlace (s.chan x) (t.chan x)) (before : (s.chan ch).st ≠ .waiting)
    (now : (t.chan ch).st = .waiting) (profile : (t.chan ch).profile = (s.chan ch).profile)
    (cls : 1 ≤ (s.chan ch).profile.cls ∧ (s.chan ch).profile.cls ≤ 3) (k : s.QueueAgrees (feedOf ch) q) :
    t.QueueAgrees (feedOf ch) (insertBehind ⟨ch, (s.chan ch).profile.cls, delay⟩ q) := by
  obtain ⟨entries, nodup, sorted, all⟩ := k
  have absent : ch ∉ q.map fun e => e.ch := fun h => by
    obtain ⟨e, he, eq⟩ := List.mem_map.mp h
    exact before (eq ▸ (entries e he).2.1)
  refine ⟨fun e he => ?_, ?_, ?_, fun x hf hw => ?_⟩
  · rcases (mem_insertBehind _ _ _).mp he with rfl | he
    · exact ⟨rfl, now, by rw [profile], cls⟩
    · obtain ⟨hf, waits, ecls, low, high⟩ := entries e he
      have place := others e.ch fun eq => before (eq ▸ waits)
      exact ⟨hf, place.1.trans waits, by rw [place.2]; exact ecls, low, high⟩
  · exact (((insertBehind_perm _ q).map _).nodup_iff).mpr (List.nodup_cons.mpr ⟨absent, nodup⟩)
  · exact insertBehind_sorted _ q sorted
  · by_cases e : x = ch
    · exact ⟨_, (mem_insertBehind _ _ _).mpr (.inl rfl), e.symm⟩
    · obtain ⟨e', he, eq⟩ := all x hf ((others x e).1 ▸ hw)
      exact ⟨e', (mem_insertBehind _ _ _).mpr (.inr he), eq⟩

/-! ### A change of one channel -/

theorem admissionKept_congr {s t : State} (chans : ∀ x, SamePlace (s.chan x) (t.chan x))
    (units : ∀ f, queueOrder (t.unit f).queue = queueOrder (s.unit f).queue ∧
      (t.unit f).sumS = (s.unit f).sumS ∧ (t.unit f).sumR = (s.unit f).sumR) (h : s.AdmissionKept) :
    t.AdmissionKept := by
  refine ⟨fun f => ⟨?_, ?_, ?_⟩, fun ch => by rw [(chans ch).2]; exact h.2 ch⟩
  · exact queueAgrees_order (units f).1 (queueAgrees_same (fun x _ _ => chans x) (h.1 f).1)
  · rw [(units f).2.1, (h.1 f).2.1]
    exact congrArg List.sum (List.map_congr_left fun x _ => (chans x).presentClaim.symm)
  · rw [(units f).2.2, (h.1 f).2.2]
    exact congrArg List.sum (List.map_congr_left fun x _ => (chans x).runClaim.symm)

theorem admissionKept_change {s t : State} {ch : Ch}
    (others : ∀ x, x ≠ ch → SamePlace (s.chan x) (t.chan x))
    (profile : (t.chan ch).profile.rclaim ≤ (t.chan ch).profile.iclaim ∧ (t.chan ch).profile.cls ≤ 3)
    (units : ∀ f, f ≠ feedOf ch → t.unit f = s.unit f)
    (sumS : (t.unit (feedOf ch)).sumS + (s.chan ch).presentClaim =
      (s.unit (feedOf ch)).sumS + (t.chan ch).presentClaim)
    (sumR : (t.unit (feedOf ch)).sumR + (s.chan ch).runClaim =
      (s.unit (feedOf ch)).sumR + (t.chan ch).runClaim)
    (queue : t.QueueAgrees (feedOf ch) (t.unit (feedOf ch)).queue) (h : s.AdmissionKept) :
    t.AdmissionKept := by
  have present : ∀ x, x ≠ ch → (t.chan x).presentClaim = (s.chan x).presentClaim := fun x hx =>
    (others x hx).presentClaim
  have run : ∀ x, x ≠ ch → (t.chan x).runClaim = (s.chan x).runClaim := fun x hx => (others x hx).runClaim
  refine ⟨fun f => ?_, fun x => ?_⟩
  · by_cases hf : f = feedOf ch
    · subst hf
      have s₁ := feedSum_change (g := fun x => (s.chan x).presentClaim)
        (g' := fun x => (t.chan x).presentClaim) present
      have r₁ := feedSum_change (g := fun x => (s.chan x).runClaim)
        (g' := fun x => (t.chan x).runClaim) run
      obtain ⟨-, s₀, r₀⟩ := h.1 (feedOf ch)
      exact ⟨queue, by omega, by omega⟩
    · have unit := units f hf
      obtain ⟨queueKept, s₀, r₀⟩ := h.1 f
      refine ⟨?_, ?_, ?_⟩
      · change t.QueueAgrees f (t.unit f).queue
        rw [unit]
        exact queueAgrees_same (fun x hx _ => others x fun e => hf (e ▸ hx.symm)) queueKept
      · rw [unit, s₀]; exact (feedSum_other present hf).symm
      · rw [unit, r₀]; exact (feedSum_other run hf).symm
  · by_cases hx : x = ch
    · exact hx ▸ profile
    · rw [(others x hx).2]; exact h.2 x

/-! ### The operations -/

theorem State.setUnit_unit (s : State) (f : Feed) : s.setUnit f (s.unit f) = s := by
  cases f <;> rfl

theorem adm_enterRamping (s : State) (ch : Ch) (n : Nat) : (s.enterRamping ch n).adm = s.adm := by
  unfold State.enterRamping
  dsimp only
  split <;> rfl

theorem unit_renumber (s : State) (f x : Feed) :
    (s.renumber f).unit x = if x = f then { s.unit f with counter := (s.admittedOf f).length } else s.unit x := by
  have stamped : ∀ l : List Ch, (s.overChannels (fun ch t => t.setChan ch
      { t.chan ch with stamp := some (s.renumbered f ch) }) l).adm = s.adm :=
    only_overChannels (R := fun u v => v.adm = u.adm)
      (f := fun ch t => t.setChan ch { t.chan ch with stamp := some (s.renumbered f ch) })
      (fun _ => rfl) (fun h k => k.trans h) (fun _ _ => rfl) s
  unfold State.renumber
  dsimp only
  rw [State.unit_setUnit]
  unfold State.unit
  rw [stamped]

theorem unit_countAdmission (s : State) (f : Feed) : ∃ n, ∀ x,
    (s.countAdmission f).unit x = if x = f then { s.unit f with counter := n } else s.unit x := by
  unfold State.countAdmission
  dsimp only
  split
  · exact ⟨(s.unit f).counter + 1, fun x => State.unit_setUnit _ _ _ _⟩
  · refine ⟨(s.admittedOf f).length + 1, fun x => ?_⟩
    rw [State.unit_setUnit, unit_renumber, unit_renumber, if_pos rfl]
    split <;> rfl

/-- A feed's unit after an admission (R59, R62): claims added, a number given, the queue as it was. -/
theorem unit_admitChannel (s : State) (ch : Ch) : ∃ n, ∀ x, (s.admitChannel ch).unit x =
    if x = feedOf ch then
      { s.unit (feedOf ch) with
        sumS := (s.unit (feedOf ch)).sumS + (s.chan ch).profile.iclaim
        sumR := (s.unit (feedOf ch)).sumR + (s.chan ch).profile.rclaim, counter := n }
    else s.unit x := by
  obtain ⟨n, counted⟩ := unit_countAdmission (s.addClaims ch) (feedOf ch)
  refine ⟨n, fun x => ?_⟩
  have entered : (s.admitChannel ch).unit x = ((s.addClaims ch).countAdmission (feedOf ch)).unit x := by
    unfold State.admitChannel State.unit
    dsimp only
    rw [adm_enterRamping]
  rw [entered, counted]
  unfold State.addClaims
  split
  · rw [State.unit_setUnit_same]
  next other => rw [State.unit_setUnit, if_neg other]

theorem admitChannel_others (s : State) {ch x : Ch} (hx : x ≠ ch) :
    SamePlace (s.chan x) ((s.admitChannel ch).chan x) := by
  rw [othersKept_admitChannel s ch x hx]; exact ⟨rfl, rfl⟩

theorem Channel.enterRamping_profile (t : ChannelType) (vavg n : Nat) (c : Channel) :
    (c.enterRamping t vavg n).profile = c.profile := by
  unfold Channel.enterRamping
  dsimp only
  split <;> rfl

theorem profile_admitChannel (s : State) (ch : Ch) :
    ((s.admitChannel ch).chan ch).profile = (s.chan ch).profile := by
  obtain ⟨m, vavg, n, entered⟩ := chan_admitChannel_same s ch
  rw [entered, Channel.enterRamping_profile]

theorem st_admitChannel_same (s : State) (ch : Ch) : ((s.admitChannel ch).chan ch).st = .ramping := by
  rw [st_admitChannel, if_pos rfl]

theorem presentClaim_ramping {c : Channel} (h : c.st = .ramping) : c.presentClaim = c.profile.iclaim := by
  unfold Channel.presentClaim; rw [h]

theorem presentClaim_on {c : Channel} (h : c.st = .on) : c.presentClaim = c.profile.rclaim := by
  unfold Channel.presentClaim; rw [h]

theorem admitted_of_ramping {c : Channel} (h : c.st = .ramping) : c.admitted = true :=
  (Channel.admitted_iff c).mpr (.inl h)

/-- An admission, with the queue that stands after it. -/
theorem admissionKept_admitChannel {s : State} {ch : Ch} {q : List QueueEntry}
    (resting : (s.chan ch).admitted = false)
    (queue : ∀ t : State, (∀ x, x ≠ ch → SamePlace (s.chan x) (t.chan x)) → (t.chan ch).st = .ramping →
      t.QueueAgrees (feedOf ch) q) (h : s.AdmissionKept) :
    ((s.setUnit (feedOf ch) { s.unit (feedOf ch) with queue := q }).admitChannel ch).AdmissionKept := by
  set s' := s.setUnit (feedOf ch) { s.unit (feedOf ch) with queue := q } with hs'
  obtain ⟨n, unit⟩ := unit_admitChannel s' ch
  have others : ∀ x, x ≠ ch → SamePlace (s.chan x) ((s'.admitChannel ch).chan x) := fun x hx =>
    admitChannel_others s' hx
  have ramping := st_admitChannel_same s' ch
  have profile : ((s'.admitChannel ch).chan ch).profile = (s.chan ch).profile := profile_admitChannel s' ch
  refine admissionKept_change others (by rw [profile]; exact h.2 ch) (fun f hf => ?_) ?_ ?_ ?_ h
  · rw [unit, if_neg hf, hs', State.unit_setUnit, if_neg hf]
  · rw [unit, if_pos rfl, presentClaim_ramping ramping, profile, Channel.presentClaim_of_resting resting, hs',
      State.unit_setUnit_same]
    rfl
  · rw [unit, if_pos rfl, Channel.runClaim_of_admitted (admitted_of_ramping ramping), profile,
      Channel.runClaim_of_resting resting, hs', State.unit_setUnit_same]
    rfl
  · rw [unit, if_pos rfl, hs', State.unit_setUnit_same]
    exact queue _ others ramping

theorem admissionKept_bypass {s : State} {ch : Ch} (resting : (s.chan ch).admitted = false)
    (idle : (s.chan ch).st ≠ .waiting) (h : s.AdmissionKept) : (s.admitChannel ch).AdmissionKept := by
  have kept := admissionKept_admitChannel (q := (s.unit (feedOf ch)).queue) resting (fun t others ramping =>
    queueAgrees_same (fun x _ hw => others x fun e => by
      subst e
      rcases hw with hw | hw
      · exact idle hw
      · rw [ramping] at hw; exact absurd hw (by decide)) (h.1 (feedOf ch)).1) h
  rwa [State.setUnit_unit] at kept

theorem admissionKept_head {s : State} {f : Feed} {e : QueueEntry} {rest : List QueueEntry}
    (hq : (s.unit f).queue = e :: rest) (h : s.AdmissionKept) :
    ((s.setUnit f { s.unit f with queue := rest }).admitChannel e.ch).AdmissionKept := by
  have queue : s.QueueAgrees f (e :: rest) := hq ▸ (h.1 f).1
  obtain ⟨hf, waits, -⟩ := queue.1 e List.mem_cons_self
  have absent : e.ch ∉ rest.map fun e => e.ch := (List.nodup_cons.mp queue.2.1).1
  subst hf
  refine admissionKept_admitChannel (by simp [Channel.admitted, waits]) (fun t others ramping => ?_) h
  refine queueAgrees_left others (by rw [ramping]; decide) (List.sublist_cons_self e rest) (fun x => ?_) queue
  rw [List.mem_cons]
  refine ⟨fun hx => ⟨.inr hx, fun eq => absent (eq ▸ List.mem_map_of_mem hx)⟩, fun hx => ?_⟩
  exact hx.1.resolve_left fun eq => hx.2 (congrArg QueueEntry.ch eq)

/-- A channel lets its claims go (R11, R53). -/
theorem admissionKept_release {s : State} {ch : Ch} {c : Channel} (ha : (s.chan ch).admitted = true)
    (profile : c.profile = (s.chan ch).profile) (resting : c.admitted = false) (out : c.st ≠ .waiting)
    (h : s.AdmissionKept) : ((s.releaseClaims ch).setChan ch c).AdmissionKept := by
  have chan : ((s.releaseClaims ch).setChan ch c).chan ch = c := State.chan_setChan_same _ _ _
  have others : ∀ x, x ≠ ch → SamePlace (s.chan x) (((s.releaseClaims ch).setChan ch c).chan x) := fun x hx => by
    rw [State.chan_setChan, if_neg hx]; exact .refl _
  have waits : (s.chan ch).st ≠ .waiting := fun e => by
    rw [Channel.admitted_iff, e] at ha
    rcases ha with k | k <;> exact nomatch k
  have unit : ((s.releaseClaims ch).setChan ch c).unit (feedOf ch) =
      { s.unit (feedOf ch) with
        sumS := (s.unit (feedOf ch)).sumS - (s.chan ch).presentClaim
        sumR := (s.unit (feedOf ch)).sumR - (s.chan ch).profile.rclaim } := State.unit_setUnit_same _ _ _
  obtain ⟨queue, sumS, sumR⟩ := h.1 (feedOf ch)
  have mem : ch ∈ channelsOf (feedOf ch) := mem_channelsOf.mpr rfl
  have leS := single_le_sum_map (g := fun x => (s.chan x).presentClaim) mem
  have leR := single_le_sum_map (g := fun x => (s.chan x).runClaim) mem
  have run := Channel.runClaim_of_admitted ha
  refine admissionKept_change others (by rw [chan, profile]; exact h.2 ch) (fun f hf => ?_) ?_ ?_ ?_ h
  · exact (State.unit_setUnit _ _ _ _).trans (if_neg hf)
  · rw [unit, chan, Channel.presentClaim_of_resting resting]
    dsimp only at leS ⊢
    omega
  · rw [unit, chan, Channel.runClaim_of_resting resting, run]
    dsimp only at leR ⊢
    omega
  · rw [unit]
    refine queueAgrees_same (fun x _ hw => others x fun e => ?_) queue
    subst e
    rcases hw with hw | hw
    · exact waits hw
    · rw [chan] at hw; exact out hw

/-- A channel that holds neither a claim nor a place takes a state that holds neither. -/
theorem admissionKept_rest {s : State} {ch : Ch} {c : Channel} (before : (s.chan ch).admitted = false)
    (idle : (s.chan ch).st ≠ .waiting)
    (profile : c.profile.rclaim ≤ c.profile.iclaim ∧ c.profile.cls ≤ 3) (resting : c.admitted = false)
    (out : c.st ≠ .waiting) (h : s.AdmissionKept) : (s.setChan ch c).AdmissionKept := by
  have chan : (s.setChan ch c).chan ch = c := State.chan_setChan_same _ _ _
  have others : ∀ x, x ≠ ch → SamePlace (s.chan x) ((s.setChan ch c).chan x) := fun x hx => by
    rw [State.chan_setChan, if_neg hx]; exact .refl _
  refine admissionKept_change others (by rw [chan]; exact profile) (fun _ _ => rfl) ?_ ?_ ?_ h
  · rw [chan, Channel.presentClaim_of_resting resting, Channel.presentClaim_of_resting before]; rfl
  · rw [chan, Channel.runClaim_of_resting resting, Channel.runClaim_of_resting before]; rfl
  · refine queueAgrees_same (fun x _ hw => others x fun e => ?_) (h.1 (feedOf ch)).1
    subst e
    rcases hw with hw | hw
    · exact idle hw
    · rw [chan] at hw; exact out hw

theorem admissionKept_dequeue {s : State} {ch : Ch} {c : Channel} (waits : (s.chan ch).st = .waiting)
    (profile : c.profile = (s.chan ch).profile) (resting : c.admitted = false) (out : c.st ≠ .waiting)
    (h : s.AdmissionKept) : ((s.dequeue ch).setChan ch c).AdmissionKept := by
  have chan : ((s.dequeue ch).setChan ch c).chan ch = c := State.chan_setChan_same _ _ _
  have others : ∀ x, x ≠ ch → SamePlace (s.chan x) (((s.dequeue ch).setChan ch c).chan x) := fun x hx => by
    rw [State.chan_setChan, if_neg hx]; exact .refl _
  have unit : ((s.dequeue ch).setChan ch c).unit (feedOf ch) =
      { s.unit (feedOf ch) with queue := (s.unit (feedOf ch)).queue.filter fun e => e.ch ≠ ch } :=
    State.unit_setUnit_same _ _ _
  have before : (s.chan ch).admitted = false := by simp [Channel.admitted, waits]
  refine admissionKept_change others (by rw [chan, profile]; exact h.2 ch)
    (fun f hf => (State.unit_setUnit _ _ _ _).trans (if_neg hf)) ?_ ?_ ?_ h
  · rw [unit, chan, Channel.presentClaim_of_resting resting, Channel.presentClaim_of_resting before]
  · rw [unit, chan, Channel.runClaim_of_resting resting, Channel.runClaim_of_resting before]
  · rw [unit]
    exact queueAgrees_left others (by rw [chan]; exact out) List.filter_sublist
      (fun e => by rw [List.mem_filter, decide_eq_true_iff]) (h.1 (feedOf ch)).1

/-- A channel that leaves for a state without claim and place (R11, R56). -/
theorem admissionKept_leaveTo {s : State} {ch : Ch} {dest : ChState}
    (hd : dest = .off ∨ dest = .shed ∨ dest = .suspended) (h : s.AdmissionKept) :
    (s.leaveTo ch dest).AdmissionKept := by
  have resting : ∀ c : Channel, c.st = dest → c.admitted = false ∧ c.st ≠ .waiting := fun c hc => by
    rcases hd with e | e | e <;> simp [Channel.admitted, hc, e]
  unfold State.leaveTo
  dsimp only
  split
  next st => exact admissionKept_dequeue st rfl (resting _ rfl).1 (resting _ rfl).2 h
  next st =>
    exact admissionKept_release (admitted_of_ramping st) rfl (resting ((s.chan ch).leaveAdmitted dest) rfl).1
      (resting ((s.chan ch).leaveAdmitted dest) rfl).2 h
  next st =>
    exact admissionKept_release ((Channel.admitted_iff _).mpr (.inr st)) rfl
      (resting ((s.chan ch).leaveAdmitted dest) rfl).1 (resting ((s.chan ch).leaveAdmitted dest) rfl).2 h
  next nw nr no =>
    exact admissionKept_rest ((Channel.not_admitted_iff _).mpr ⟨nr, no⟩) nw (h.2 ch) (resting _ rfl).1
      (resting _ rfl).2 h

theorem admissionKept_place {s : State} {ch : Ch} (before : (s.chan ch).admitted = false)
    (idle : (s.chan ch).st ≠ .waiting) (cls : (s.chan ch).profile.cls ≠ 0) (h : s.AdmissionKept) :
    (s.place ch).AdmissionKept := by
  have chan : (s.place ch).chan ch = { s.chan ch with st := .waiting } := by
    rw [State.chan_place, if_pos rfl]
  have others : ∀ x, x ≠ ch → SamePlace (s.chan x) ((s.place ch).chan x) := fun x hx => by
    rw [State.chan_place, if_neg hx]; exact .refl _
  have resting : ({ s.chan ch with st := .waiting } : Channel).admitted = false := rfl
  have unit : (s.place ch).unit (feedOf ch) = { s.unit (feedOf ch) with
      queue := insertBehind ⟨ch, (s.chan ch).profile.cls, some 0⟩ (s.unit (feedOf ch)).queue } :=
    State.unit_setUnit_same _ _ _
  refine admissionKept_change others (by rw [chan]; exact h.2 ch)
    (fun f hf => (State.unit_setUnit _ _ _ _).trans (if_neg hf)) ?_ ?_ ?_ h
  · rw [unit, chan, Channel.presentClaim_of_resting resting, Channel.presentClaim_of_resting before]
  · rw [unit, chan, Channel.runClaim_of_resting resting, Channel.runClaim_of_resting before]
  · rw [unit]
    exact queueAgrees_joined others idle (by rw [chan]) (by rw [chan])
      ⟨Nat.one_le_iff_ne_zero.mpr cls, (h.2 ch).2⟩ (h.1 (feedOf ch)).1

theorem admissionKept_window {s : State} {ch : Ch} {c : Channel} (before : (s.chan ch).st = .ramping)
    (now : c.st = .on) (profile : c.profile = (s.chan ch).profile) (h : s.AdmissionKept) :
    ((s.setChan ch c).setUnit (feedOf ch) { s.unit (feedOf ch) with
      sumS := (s.unit (feedOf ch)).sumS - ((s.chan ch).profile.iclaim - (s.chan ch).profile.rclaim) }).AdmissionKept := by
  have claims := (h.2 ch).1
  have admitted := (Channel.admitted_iff c).mpr (.inr now)
  have chan : (s.setChan ch c).chan ch = c := State.chan_setChan_same _ _ _
  have others : ∀ x, x ≠ ch → SamePlace (s.chan x) ((s.setChan ch c).chan x) := fun x hx => by
    rw [State.chan_setChan, if_neg hx]; exact .refl _
  obtain ⟨queue, sumS, sumR⟩ := h.1 (feedOf ch)
  have le := single_le_sum_map (g := fun x => (s.chan x).presentClaim) (mem_channelsOf.mpr (rfl : feedOf ch = _))
  have present := presentClaim_ramping before
  refine admissionKept_change (s := s) (ch := ch) others ?_
    (fun f hf => (State.unit_setUnit _ _ _ _).trans (if_neg hf)) ?_ ?_ ?_ h
  · rw [State.chan_setUnit, chan, profile]; exact h.2 ch
  · rw [State.unit_setUnit_same, State.chan_setUnit, chan, presentClaim_on now, profile]
    dsimp only at le ⊢
    omega
  · rw [State.unit_setUnit_same, State.chan_setUnit, chan, Channel.runClaim_of_admitted admitted,
      Channel.runClaim_of_admitted (admitted_of_ramping before), profile]
  · rw [State.unit_setUnit_same]
    refine queueAgrees_same (fun x _ hw => others x fun e => ?_) queue
    subst e
    rcases hw with hw | hw
    · rw [before] at hw; exact absurd hw (by decide)
    · rw [State.chan_setUnit, chan, now] at hw; exact absurd hw (by decide)

end Sys2Proof.Machine
end

section
/-!
PROOF. Every single change keeps the admission units in agreement with the channels (R53, R54) and the
budgets (R59).
-/
namespace Sys2Proof.Machine

variable {i : Instr}

theorem samePlace_setChan {s : State} {ch : Ch} {c : Channel} (h : SamePlace (s.chan ch) c) (x : Ch) :
    SamePlace (s.chan x) ((s.setChan ch c).chan x) := by
  rw [State.chan_setChan]
  split
  next e => subst e; exact h
  next => exact .refl _

theorem samePlace_setChan_other {s : State} {ch x : Ch} (c : Channel) (h : x ≠ ch) :
    SamePlace (s.chan x) ((s.setChan ch c).chan x) := by
  rw [State.chan_setChan, if_neg h]; exact .refl _

theorem samePlace_of_chans {s t : State} (h : t.chans = s.chans) (x : Ch) : SamePlace (s.chan x) (t.chan x) := by
  unfold State.chan; rw [h]; exact .refl _

theorem admissionKept_told {s : State} {ch : Ch} {c : Channel} (hc : Told s ch c) (h : s.AdmissionKept) :
    (s.setChan ch c).AdmissionKept :=
  admissionKept_congr (samePlace_setChan hc.samePlace) (fun _ => ⟨rfl, rfl, rfl⟩) h

theorem chan_clearDemands (s : State) (ch : Ch) : s.clearDemands.chan ch = (s.chan ch).softReset :=
  mapChannels_get _ _ _

theorem unit_clearDemands (s : State) (f : Feed) : s.clearDemands.unit f = (s.unit f).softReset :=
  Pair.get_map _ _ _

theorem Channel.softReset_st (c : Channel) :
    c.softReset.st = if c.st = .tripped ∨ c.st = .locked then c.st else .off := by
  unfold Channel.softReset Channel.leaveAdmitted
  dsimp only
  split
  next e => simp [e]
  next e => simp [e]
  next e => simp [e]
  next _ nt nl => rw [if_neg (by rintro (e | e); exacts [nt e, nl e])]

theorem Channel.softReset_profile (c : Channel) : c.softReset.profile = c.profile := by
  unfold Channel.softReset
  dsimp only
  split <;> rfl

theorem Channel.softReset_rests (c : Channel) : c.softReset.admitted = false ∧ c.softReset.st ≠ .waiting := by
  unfold Channel.admitted
  rw [Channel.softReset_st]
  split
  next e => rcases e with e | e <;> simp [e]
  next => simp

theorem admissionKept_clearDemands {s : State} (h : s.AdmissionKept) : s.clearDemands.AdmissionKept := by
  have rests : ∀ x, (s.clearDemands.chan x).admitted = false ∧ (s.clearDemands.chan x).st ≠ .waiting := fun x => by
    rw [chan_clearDemands]; exact (s.chan x).softReset_rests
  refine ⟨fun f => ⟨?_, ?_, ?_⟩, fun ch => ?_⟩
  · change s.clearDemands.QueueAgrees f (s.clearDemands.unit f).queue
    rw [unit_clearDemands]
    exact queueAgrees_nil fun ch => (rests ch).2
  · rw [unit_clearDemands]
    exact (feedSum_zero fun x _ => Channel.presentClaim_of_resting (rests x).1).symm
  · rw [unit_clearDemands]
    exact (feedSum_zero fun x _ => Channel.runClaim_of_resting (rests x).1).symm
  · rw [chan_clearDemands, Channel.softReset_profile]
    exact h.2 ch

theorem Edit.admissionKept {s t : State} (h : Edit i s t) (hs : s.AdmissionKept) : t.AdmissionKept := by
  have chansOnly : ∀ {u : State}, (∀ x, SamePlace (s.chan x) (u.chan x)) → u.adm = s.adm → u.AdmissionKept :=
    fun chans adm => admissionKept_congr chans (fun f => by unfold State.unit; rw [adm]; exact ⟨rfl, rfl, rfl⟩) hs
  have unitOnly : ∀ {f : Feed} {u : Admission}, queueOrder u.queue = queueOrder (s.unit f).queue →
      u.sumS = (s.unit f).sumS → u.sumR = (s.unit f).sumR → (s.setUnit f u).AdmissionKept :=
    fun {f u} hq hS hR => admissionKept_congr (s := s) (fun _ => .refl _) (fun x => by
      rw [State.unit_setUnit]
      split
      next e => subst e; exact ⟨hq, hS, hR⟩
      next => exact ⟨rfl, rfl, rfl⟩) hs
  cases h with
  | other h => exact chansOnly (samePlace_of_chans (by rw [h])) (by rw [h])
  | ports h => exact chansOnly (samePlace_of_chans h.chans) h.adm
  | unit hq hS hR => exact unitOnly hq hS hR
  | budgets hq hS hR => exact unitOnly (by rw [hq]) hS hR
  | record => exact chansOnly (samePlace_setChan ⟨rfl, rfl⟩) rfl
  | sample => exact chansOnly (samePlace_setChan ⟨rfl, rfl⟩) rfl
  | marks => exact chansOnly (samePlace_setChan ⟨rfl, rfl⟩) rfl
  | intervals =>
    refine chansOnly (fun x => ?_) rfl
    have woken : ({ s with chans := mapChannels Channel.wake s.chans } : State).chan x = (s.chan x).wake :=
      mapChannels_get _ _ _
    rw [woken]; exact ⟨rfl, rfl⟩
  | period => exact chansOnly (samePlace_setChan ⟨rfl, rfl⟩) rfl
  | @cleared ch =>
    by_cases locked : (s.chan ch).st = .locked
    · exact admissionKept_rest (by simp [Channel.admitted, locked]) (by simp [locked]) (hs.2 ch)
        (by simp [Channel.clear, Channel.admitted, locked]) (by simp [Channel.clear, locked]) hs
    · exact chansOnly (samePlace_setChan ⟨by simp [Channel.clear, locked], rfl⟩) rfl
  | @profile ch p d n hoff hp =>
    exact admissionKept_rest (by simp [Channel.admitted, hoff]) (by simp [hoff])
      ⟨hp.claims (hs.2 ch).1, hp.cls (hs.2 ch).2⟩ (by simp [Channel.admitted, hoff]) (by simp [hoff]) hs
  | leave hc _ hd =>
    refine admissionKept_leaveTo ?_ (admissionKept_told hc hs)
    rcases hd with ⟨e, -⟩ | ⟨e | e, -⟩ <;> simp [e]
  | @place ch c hc hst _ hcls =>
    refine admissionKept_place ?_ ?_ ?_ (admissionKept_told hc hs) <;> rw [State.chan_setChan_same]
    · rcases hst with e | e | e | e <;> simp [Channel.admitted, e]
    · rcases hst with e | e | e | e <;> simp [e]
    · exact hcls
  | @bypass ch c hc hst =>
    refine admissionKept_bypass ?_ ?_ (admissionKept_told hc hs) <;> rw [State.chan_setChan_same]
    · rcases hst with e | e | e <;> simp [Channel.admitted, e]
    · rcases hst with e | e | e <;> simp [e]
  | head hq => exact admissionKept_head hq hs
  | @trip ch cause rms vavg _ ha =>
    refine admissionKept_release ha rfl ?_ ?_ hs <;>
      simp only [Channel.afterTrip, Channel.leaveAdmitted, Channel.admitted, Channel.tripState] <;> split <;> simp
  | window h => exact admissionKept_window h rfl rfl hs
  | put => exact chansOnly (fun _ => .refl _) rfl
  | amend => exact chansOnly (fun _ => .refl _) rfl
  | mark => exact chansOnly (fun _ => .refl _) rfl
  | bridge => exact chansOnly (fun _ => .refl _) rfl
  | clearDemands => exact admissionKept_clearDemands hs

theorem Channel.afterTrip_rests (c : Channel) (cause : TripCause) (rms vavg : Nat) :
    (c.afterTrip cause rms vavg).admitted = false ∧ (c.afterTrip cause rms vavg).st ≠ .waiting := by
  simp only [Channel.afterTrip, Channel.leaveAdmitted, Channel.admitted, Channel.tripState]
  split <;> simp

theorem admissionKept_tripped {s : State} {ch : Ch} (cause : TripCause) (rms vavg : Nat)
    (ha : (s.chan ch).admitted = true) (h : s.AdmissionKept) : (s.tripped ch cause rms vavg).AdmissionKept :=
  admissionKept_release ha rfl (Channel.afterTrip_rests _ cause rms vavg).1
    (Channel.afterTrip_rests _ cause rms vavg).2 h

theorem Fine.admissionKept {s t : State} (h : Fine i s t) (hs : s.AdmissionKept) : t.AdmissionKept := by
  cases h with
  | edit h => exact h.admissionKept hs
  | own => exact hs
  | disown => exact hs
  | bridge => exact hs
  | trip ha => exact admissionKept_tripped _ _ _ ha hs

theorem admissionKept_powerOn (zone : Fin 4) : (State.powerOn zone).AdmissionKept := by
  have units : ∀ f, ((State.powerOn zone).unit f).queue = [] ∧ ((State.powerOn zone).unit f).sumS = 0 ∧
      ((State.powerOn zone).unit f).sumR = 0 := fun f => by cases f <;> exact ⟨rfl, rfl, rfl⟩
  have rests : ∀ x, ((State.powerOn zone).chan x).admitted = false := fun x => by
    rw [State.chan_powerOn]; rfl
  have profiles : ∀ ch : Ch, (Profile.powerOn ch).rclaim ≤ (Profile.powerOn ch).iclaim ∧
      (Profile.powerOn ch).cls ≤ 3 := by decide
  refine ⟨fun f => ⟨?_, ?_, ?_⟩, fun ch => ?_⟩
  · change (State.powerOn zone).QueueAgrees f ((State.powerOn zone).unit f).queue
    rw [(units f).1]
    exact queueAgrees_nil fun ch => by rw [State.chan_powerOn]; exact nofun
  · rw [(units f).2.1]; exact (feedSum_zero fun x _ => Channel.presentClaim_of_resting (rests x)).symm
  · rw [(units f).2.2]; exact (feedSum_zero fun x _ => Channel.runClaim_of_resting (rests x)).symm
  · rw [State.chan_powerOn]; exact profiles ch

theorem samePlace_tick (s : State) (x : Ch) : SamePlace (s.chan x) (s.tick.chan x) := by
  rcases s.chan_tick x with e | e <;> rw [e] <;> exact ⟨rfl, rfl⟩

theorem queueOrder_tick (u : Admission) : queueOrder u.tick.queue = queueOrder u.queue := by
  unfold queueOrder Admission.tick
  rw [List.map_map]
  rfl

theorem admissionKept_kept : Kept State.AdmissionKept where
  frame _ _ _ h := h
  powerOn := admissionKept_powerOn
  free _ _ h := h
  tick s h := admissionKept_congr (samePlace_tick s) (fun f => by
    rcases s.unit_tick f with e | e <;> rw [e]
    · exact ⟨rfl, rfl, rfl⟩
    · exact ⟨queueOrder_tick _, rfl, rfl⟩) h
  fine _ _ _ h hs := h.admissionKept hs

/-! ### Budgets (R59) -/

/-- The present claim of a channel of class 1 to 3. -/
def Channel.budgetS (c : Channel) : Nat := if 1 ≤ c.profile.cls then c.presentClaim else 0

/-- The run claim of a channel of class 1 to 3. -/
def Channel.budgetR (c : Channel) : Nat := if 1 ≤ c.profile.cls then c.runClaim else 0

theorem sum_filter_map {α : Type} (p : α → Prop) [DecidablePred p] (g : α → Nat) : ∀ l : List α,
    ((l.filter fun x => p x).map g).sum = (l.map fun x => if p x then g x else 0).sum
  | [] => rfl
  | x :: l => by
    have ih := sum_filter_map p g l
    by_cases h : p x
    · rw [List.filter_cons_of_pos (by simpa using h), List.map_cons, List.map_cons, List.sum_cons, List.sum_cons, ih,
        if_pos h]
    · rw [List.filter_cons_of_neg (by simpa using h), List.map_cons, List.sum_cons, ih, if_neg h, Nat.zero_add]

theorem budgetsKept_iff (s : State) : s.BudgetsKept ↔ ∀ f,
    ((channelsOf f).map fun ch => (s.chan ch).budgetS).sum ≤ (s.unit f).peak ∧
      ((channelsOf f).map fun ch => (s.chan ch).budgetR).sum ≤ (s.unit f).cont := by
  unfold State.BudgetsKept
  refine forall_congr' fun f => ?_
  dsimp only
  rw [sum_filter_map (fun ch => 1 ≤ (s.chan ch).profile.cls), sum_filter_map (fun ch => 1 ≤ (s.chan ch).profile.cls)]
  rfl

/-- A channel's claims on the budgets have not grown. -/
def Lower (c d : Channel) : Prop := d.budgetS ≤ c.budgetS ∧ d.budgetR ≤ c.budgetR

theorem SamePlace.lower {c d : Channel} (h : SamePlace c d) : Lower c d := by
  unfold Lower Channel.budgetS Channel.budgetR
  rw [h.presentClaim, h.runClaim, h.2]
  exact ⟨le_rfl, le_rfl⟩

theorem Channel.budgetS_of_resting {c : Channel} (h : c.admitted = false) : c.budgetS = 0 := by
  rw [Channel.budgetS, Channel.presentClaim_of_resting h, ite_self]

theorem Channel.budgetR_of_resting {c : Channel} (h : c.admitted = false) : c.budgetR = 0 := by
  rw [Channel.budgetR, Channel.runClaim_of_resting h, ite_self]

theorem Lower.of_resting {c d : Channel} (h : d.admitted = false) : Lower c d := by
  unfold Lower
  rw [Channel.budgetS_of_resting h, Channel.budgetR_of_resting h]
  exact ⟨Nat.zero_le _, Nat.zero_le _⟩

theorem Lower.of_class {c d : Channel} (h : d.profile.cls = 0) : Lower c d := by
  unfold Lower Channel.budgetS Channel.budgetR
  rw [h]
  exact ⟨Nat.zero_le _, Nat.zero_le _⟩

theorem budgetsKept_lower {s t : State} (chans : ∀ x, Lower (s.chan x) (t.chan x))
    (units : ∀ f, (t.unit f).peak = (s.unit f).peak ∧ (t.unit f).cont = (s.unit f).cont) (h : s.BudgetsKept) :
    t.BudgetsKept := by
  rw [budgetsKept_iff] at h ⊢
  intro f
  obtain ⟨peak, cont⟩ := units f
  rw [peak, cont]
  exact ⟨(List.sum_le_sum fun x _ => (chans x).1).trans (h f).1,
    (List.sum_le_sum fun x _ => (chans x).2).trans (h f).2⟩

theorem lower_setChan {s : State} {ch : Ch} {c : Channel} (h : Lower (s.chan ch) c) (x : Ch) :
    Lower (s.chan x) ((s.setChan ch c).chan x) := by
  rw [State.chan_setChan]
  split
  next e => subst e; exact h
  next => exact (SamePlace.refl _).lower

theorem leaveTo_st (s : State) (ch : Ch) (dest : ChState) : ((s.leaveTo ch dest).chan ch).st = dest := by
  unfold State.leaveTo
  dsimp only
  split <;> rw [State.chan_setChan_same] <;> rfl

theorem setUnit_budgets {s t : State} {f : Feed} {u : Admission} (ht : t.adm = (s.setUnit f u).adm)
    (hp : u.peak = (s.unit f).peak) (hc : u.cont = (s.unit f).cont) (x : Feed) :
    (t.unit x).peak = (s.unit x).peak ∧ (t.unit x).cont = (s.unit x).cont := by
  have unit : t.unit x = (s.setUnit f u).unit x := by unfold State.unit; rw [ht]
  rw [unit, State.unit_setUnit]
  split
  next e => subst e; exact ⟨hp, hc⟩
  next => exact ⟨rfl, rfl⟩

theorem dequeue_budgets (s : State) (ch : Ch) (f : Feed) :
    ((s.dequeue ch).unit f).peak = (s.unit f).peak ∧ ((s.dequeue ch).unit f).cont = (s.unit f).cont :=
  setUnit_budgets (ht := (rfl : (s.dequeue ch).adm = (s.setUnit (feedOf ch) _).adm)) rfl rfl f

theorem releaseClaims_budgets (s : State) (ch : Ch) (f : Feed) :
    ((s.releaseClaims ch).unit f).peak = (s.unit f).peak ∧
      ((s.releaseClaims ch).unit f).cont = (s.unit f).cont :=
  setUnit_budgets (ht := (rfl : (s.releaseClaims ch).adm = (s.setUnit (feedOf ch) _).adm)) rfl rfl f

theorem leaveTo_budgets (s : State) (ch : Ch) (dest : ChState) (f : Feed) :
    ((s.leaveTo ch dest).unit f).peak = (s.unit f).peak ∧ ((s.leaveTo ch dest).unit f).cont = (s.unit f).cont := by
  unfold State.leaveTo
  dsimp only
  split
  · exact dequeue_budgets s ch f
  · exact releaseClaims_budgets s ch f
  · exact releaseClaims_budgets s ch f
  · exact ⟨rfl, rfl⟩

theorem admitChannel_budgets (s : State) (ch : Ch) (f : Feed) :
    ((s.admitChannel ch).unit f).peak = (s.unit f).peak ∧ ((s.admitChannel ch).unit f).cont = (s.unit f).cont := by
  obtain ⟨n, unit⟩ := unit_admitChannel s ch
  rw [unit]
  split
  next e => subst e; exact ⟨rfl, rfl⟩
  next => exact ⟨rfl, rfl⟩

/-- The claims of classes 1 to 3 are among all claims. -/
theorem budgets_le_sums {s : State} (h : s.AdmissionKept) (f : Feed) :
    ((channelsOf f).map fun ch => (s.chan ch).budgetS).sum ≤ (s.unit f).sumS ∧
      ((channelsOf f).map fun ch => (s.chan ch).budgetR).sum ≤ (s.unit f).sumR := by
  obtain ⟨-, sumS, sumR⟩ := h.1 f
  rw [sumS, sumR]
  constructor
  · refine List.sum_le_sum fun x _ => ?_
    unfold Channel.budgetS
    split
    · exact le_rfl
    · exact Nat.zero_le _
  · refine List.sum_le_sum fun x _ => ?_
    unfold Channel.budgetR
    split
    · exact le_rfl
    · exact Nat.zero_le _

/-- A head that fits stays within the budgets (R59). -/
theorem budgetsKept_head {s : State} {f : Feed} {e : QueueEntry} {rest : List QueueEntry}
    (hq : (s.unit f).queue = e :: rest) (hfits : s.fits f e = true) (ha : s.AdmissionKept) (h : s.BudgetsKept) :
    ((s.setUnit f { s.unit f with queue := rest }).admitChannel e.ch).BudgetsKept := by
  obtain ⟨hf, waits, -⟩ := (ha.1 f).1.1 e (hq ▸ List.mem_cons_self)
  subst hf
  set s' := s.setUnit (feedOf e.ch) { s.unit (feedOf e.ch) with queue := rest } with hs'
  have others : ∀ x, x ≠ e.ch → SamePlace (s.chan x) ((s'.admitChannel e.ch).chan x) := fun x hx =>
    admitChannel_others s' hx
  have ramping := st_admitChannel_same s' e.ch
  have profile : ((s'.admitChannel e.ch).chan e.ch).profile = (s.chan e.ch).profile := profile_admitChannel s' e.ch
  have resting : (s.chan e.ch).admitted = false := by simp [Channel.admitted, waits]
  have units : ∀ x, ((s'.admitChannel e.ch).unit x).peak = (s.unit x).peak ∧
      ((s'.admitChannel e.ch).unit x).cont = (s.unit x).cont := fun x => by
    rw [(admitChannel_budgets s' e.ch x).1, (admitChannel_budgets s' e.ch x).2]
    exact setUnit_budgets (u := { s.unit (feedOf e.ch) with queue := rest }) rfl rfl rfl x
  unfold State.fits at hfits
  simp only [Bool.and_eq_true, decide_eq_true_eq] at hfits
  obtain ⟨⟨-, fitsS⟩, fitsR⟩ := hfits
  rw [budgetsKept_iff] at h ⊢
  intro x
  rw [(units x).1, (units x).2]
  by_cases hx : x = feedOf e.ch
  · subst hx
    obtain ⟨leS, leR⟩ := budgets_le_sums ha (feedOf e.ch)
    have sumS := feedSum_change (g := fun x => (s.chan x).budgetS)
      (g' := fun x => ((s'.admitChannel e.ch).chan x).budgetS) fun y hy =>
        Nat.le_antisymm (others y hy).lower.1 (SamePlace.lower ⟨(others y hy).1.symm, (others y hy).2.symm⟩).1
    have sumR := feedSum_change (g := fun x => (s.chan x).budgetR)
      (g' := fun x => ((s'.admitChannel e.ch).chan x).budgetR) fun y hy =>
        Nat.le_antisymm (others y hy).lower.2 (SamePlace.lower ⟨(others y hy).1.symm, (others y hy).2.symm⟩).2
    have mineS : ((s'.admitChannel e.ch).chan e.ch).budgetS ≤ (s.chan e.ch).profile.iclaim := by
      unfold Channel.budgetS
      rw [presentClaim_ramping ramping, profile]
      split
      · exact le_rfl
      · exact Nat.zero_le _
    have mineR : ((s'.admitChannel e.ch).chan e.ch).budgetR ≤ (s.chan e.ch).profile.rclaim := by
      unfold Channel.budgetR
      rw [Channel.runClaim_of_admitted (admitted_of_ramping ramping), profile]
      split
      · exact le_rfl
      · exact Nat.zero_le _
    constructor <;> omega
  · have same : ∀ y ∈ channelsOf x, Lower (s.chan y) ((s'.admitChannel e.ch).chan y) := fun y hy =>
      (others y fun k => hx (k ▸ (mem_channelsOf.mp hy).symm)).lower
    exact ⟨(List.sum_le_sum fun y hy => (same y hy).1).trans (h x).1,
      (List.sum_le_sum fun y hy => (same y hy).2).trans (h x).2⟩

theorem Edit.budgetsKept {s t : State} (h : Edit i s t) (ha : s.AdmissionKept) (hs : s.BudgetsKept) :
    t.BudgetsKept := by
  have chansOnly : ∀ {u : State}, (∀ x, Lower (s.chan x) (u.chan x)) → u.adm = s.adm → u.BudgetsKept :=
    fun chans adm => budgetsKept_lower chans (fun f => by unfold State.unit; rw [adm]; exact ⟨rfl, rfl⟩) hs
  have setChan : ∀ {ch : Ch} {c : Channel}, Lower (s.chan ch) c → (s.setChan ch c).BudgetsKept :=
    fun k => chansOnly (lower_setChan k) rfl
  have same : ∀ {u : State}, u.chans = s.chans → u.adm = s.adm → u.BudgetsKept := fun chans adm =>
    chansOnly (fun x => (samePlace_of_chans chans x).lower) adm
  cases h with
  | other h => exact same (by rw [h]) (by rw [h])
  | ports h => exact same h.chans h.adm
  | unit _ _ _ hb =>
    exact budgetsKept_lower (s := s) (fun _ => (SamePlace.refl _).lower) (setUnit_budgets rfl hb.1 hb.2) hs
  | @budgets f u _ _ _ hoff =>
    rw [budgetsKept_iff] at hs ⊢
    intro x
    by_cases hx : x = f
    · have rests : ∀ y, feedOf y = x → (s.chan y).admitted = false := fun y hy => by
        simp [Channel.admitted, hoff y (hy.trans hx)]
      simp only [State.chan_setUnit]
      rw [feedSum_zero fun y hy => Channel.budgetS_of_resting (rests y hy),
        feedSum_zero fun y hy => Channel.budgetR_of_resting (rests y hy)]
      exact ⟨Nat.zero_le _, Nat.zero_le _⟩
    · rw [State.unit_setUnit, if_neg hx]; exact hs x
  | record => exact setChan (SamePlace.lower ⟨rfl, rfl⟩)
  | sample => exact setChan (SamePlace.lower ⟨rfl, rfl⟩)
  | marks => exact setChan (SamePlace.lower ⟨rfl, rfl⟩)
  | intervals =>
    refine chansOnly (fun x => SamePlace.lower ?_) rfl
    have woken : ({ s with chans := mapChannels Channel.wake s.chans } : State).chan x = (s.chan x).wake :=
      mapChannels_get _ _ _
    rw [woken]; exact ⟨rfl, rfl⟩
  | period => exact setChan (SamePlace.lower ⟨rfl, rfl⟩)
  | @cleared ch =>
    by_cases locked : (s.chan ch).st = .locked
    · exact setChan (.of_resting (by simp [Channel.clear, Channel.admitted, locked]))
    · exact setChan (SamePlace.lower ⟨by simp [Channel.clear, locked], rfl⟩)
  | profile hoff => exact setChan (.of_resting (by simp [Channel.admitted, hoff]))
  | @leave ch c dest hc _ hd =>
    refine budgetsKept_lower (s := s) (fun x => ?_) (fun f => leaveTo_budgets (s.setChan ch c) ch dest f) hs
    by_cases hx : x = ch
    · subst hx
      refine .of_resting ?_
      unfold Channel.admitted
      rw [leaveTo_st]
      rcases hd with ⟨e, -⟩ | ⟨e | e, -⟩ <;> simp [e]
    · rw [othersKept_leaveTo (s.setChan ch c) ch dest x hx]
      exact SamePlace.lower (c := s.chan x) (samePlace_setChan_other c hx)
  | @place ch c =>
    refine budgetsKept_lower (s := s) (fun x => ?_) (setUnit_budgets (f := feedOf ch) rfl rfl rfl) hs
    rw [State.chan_place]
    split
    · exact .of_resting rfl
    next hx => exact (samePlace_setChan_other c hx).lower
  | @bypass ch c hc _ _ hcls =>
    refine budgetsKept_lower (s := s) (fun x => ?_) (fun f => admitChannel_budgets (s.setChan ch c) ch f) hs
    by_cases hx : x = ch
    · subst hx
      refine .of_class ?_
      rw [profile_admitChannel, State.chan_setChan_same]
      exact hcls
    · exact ((samePlace_setChan_other c hx).trans (admitChannel_others (s.setChan ch c) hx)).lower
  | head hq hfits => exact budgetsKept_head hq hfits ha hs
  | @trip ch =>
    exact budgetsKept_lower (s := s) (lower_setChan (s := s.releaseClaims ch)
      (.of_resting (Channel.afterTrip_rests _ _ _ _).1))
      (setUnit_budgets (f := feedOf ch) rfl rfl rfl) hs
  | @window ch h =>
    refine budgetsKept_lower (s := s) (lower_setChan ?_) (setUnit_budgets (f := feedOf ch) rfl rfl rfl) hs
    have claims := (ha.2 ch).1
    unfold Lower Channel.budgetS Channel.budgetR
    rw [presentClaim_ramping h, presentClaim_on rfl, Channel.runClaim_of_admitted (admitted_of_ramping h),
      Channel.runClaim_of_admitted ((Channel.admitted_iff _).mpr (.inr rfl))]
    dsimp only
    split
    · exact ⟨claims, le_rfl⟩
    · exact ⟨le_rfl, le_rfl⟩
  | put => exact same rfl rfl
  | amend => exact same rfl rfl
  | mark => exact same rfl rfl
  | bridge => exact same rfl rfl
  | clearDemands =>
    refine budgetsKept_lower (fun x => .of_resting ?_) (fun f => ?_) hs
    · rw [chan_clearDemands]; exact (s.chan x).softReset_rests.1
    · rw [unit_clearDemands]; exact ⟨rfl, rfl⟩

theorem budgetsKept_tripped {s : State} {ch : Ch} (cause : TripCause) (rms vavg : Nat) (h : s.BudgetsKept) :
    (s.tripped ch cause rms vavg).BudgetsKept :=
  budgetsKept_lower (s := s) (lower_setChan (s := s.releaseClaims ch)
    (.of_resting (Channel.afterTrip_rests _ _ _ _).1))
      (setUnit_budgets (f := feedOf ch) rfl rfl rfl) h

theorem Fine.budgetsKept {s t : State} (h : Fine i s t) (ha : s.AdmissionKept) (hs : s.BudgetsKept) :
    t.BudgetsKept := by
  cases h with
  | edit h => exact h.budgetsKept ha hs
  | own => exact hs
  | disown => exact hs
  | bridge => exact hs
  | trip => exact budgetsKept_tripped _ _ _ hs

theorem budgetsKept_powerOn (zone : Fin 4) : (State.powerOn zone).BudgetsKept := by
  have rests : ∀ x, ((State.powerOn zone).chan x).admitted = false := fun x => by
    rw [State.chan_powerOn]; rfl
  rw [budgetsKept_iff]
  intro f
  rw [feedSum_zero fun y _ => Channel.budgetS_of_resting (rests y),
    feedSum_zero fun y _ => Channel.budgetR_of_resting (rests y)]
  exact ⟨Nat.zero_le _, Nat.zero_le _⟩

theorem budgetsKept_tick {s : State} (h : s.BudgetsKept) : s.tick.BudgetsKept :=
  budgetsKept_lower (fun x => (samePlace_tick s x).lower) (fun f => by
    rcases s.unit_tick f with e | e <;> rw [e] <;> exact ⟨rfl, rfl⟩) h

/-- Settles O57: an admission, a place in a queue and a claim given back each keep one channel's share of the
sums, and a head is admitted only where it fits. -/
theorem stepKeepsAdmission : Obligations.StepKeepsAdmission := by
  unfold Obligations.StepKeepsAdmission
  refine ⟨fun s t hstep => admissionKept_kept.step hstep, fun s t hstep ha hb => ?_⟩
  have both := admissionKept_kept.and (J := State.BudgetsKept) (fun _ _ _ h => h) budgetsKept_powerOn
    (fun _ _ h => h) (fun _ _ h => budgetsKept_tick h) fun _ _ _ h => h.budgetsKept
  exact (both.step hstep ⟨ha, hb⟩).2

end Sys2Proof.Machine
end

section
/-!
PROOF. Trip counts and locks (R18, R20), owners and their entries (R117), and wishes with states (R12 to R16).
-/
namespace Sys2Proof.Machine

variable {i : Instr}

/-! ### Trip counts and locks -/

/-- What `State.TripsBounded` says of one channel. -/
def TripsOk (c : Channel) : Prop :=
  c.tripCount ≤ c.profile.retries ∨ (c.tripCount = c.profile.retries + 1 ∧ c.st = .locked)

theorem TripsOk.of_le {c d : Channel} (hn : d.tripCount ≤ c.tripCount) (hp : d.profile.retries = c.profile.retries)
    (hl : c.st = .locked → d.st = .locked) (h : TripsOk c) : TripsOk d := by
  unfold TripsOk at h ⊢
  rw [hp]
  rcases h with le | ⟨eq, locked⟩
  · exact .inl (hn.trans le)
  · rcases Nat.lt_or_ge d.tripCount (c.profile.retries + 1) with lt | ge
    · exact .inl (Nat.lt_succ_iff.mp lt)
    · exact .inr ⟨Nat.le_antisymm (hn.trans eq.le) ge, hl locked⟩

theorem TripsOk.le {c : Channel} (h : TripsOk c) (hl : c.st ≠ .locked) : c.tripCount ≤ c.profile.retries :=
  h.resolve_right fun k => hl k.2

theorem ne_locked_of_admitted {c : Channel} (h : c.admitted = true) : c.st ≠ .locked := fun e => by
  rw [Channel.admitted_iff, e] at h
  rcases h with k | k <;> exact nomatch k

theorem ChanChange.tripsOk {s : State} {ch : Ch} {c d : Channel} (h : ChanChange i s ch c d)
    (kept : s.AdmissionKept) (hc : TripsOk c) : TripsOk d := by
  cases h with
  | marks h => exact hc.of_le h rfl fun e => e
  | cleared => exact .inl (Nat.zero_le _)
  | @profile p def_ n hoff _ hn =>
    have le := hc.le (by simp [hoff])
    refine .inl ?_
    change n ≤ p.retries
    by_contra lt
    have same := hn.2 (Nat.lt_of_not_le lt)
    have := hn.1
    omega
  | rests _ hl => exact .inl (hc.le hl)
  | leaves ha => exact .inl (hc.le (ne_locked_of_admitted ha))
  | trip ha =>
    have le := hc.le (ne_locked_of_admitted ha)
    unfold TripsOk Channel.afterTrip Channel.leaveAdmitted Channel.tripState
    dsimp only
    split
    · exact .inr ⟨by omega, rfl⟩
    · exact .inl (by omega)
  | enters hl =>
    have le := hc.le (hl kept)
    unfold Channel.enterRamping
    dsimp only
    split <;> exact .inl le
  | window h => exact .inl (hc.le (by simp [h]))
  | softReset =>
    refine hc.of_le ?_ ?_ fun e => by rw [Channel.softReset_st, e]; rfl
    · unfold Channel.softReset; dsimp only; split <;> exact le_rfl
    · rw [Channel.softReset_profile]
  | stamp => exact hc
  | record => exact hc
  | sample => exact hc
  | period => exact hc

theorem tripsBounded_powerOn (zone : Fin 4) : (State.powerOn zone).TripsBounded := fun ch => by
  rw [State.chan_powerOn]; exact .inl (Nat.zero_le _)

theorem tripsBounded_kept : Kept fun s => s.AdmissionKept ∧ s.TripsBounded :=
  admissionKept_kept.and (fun _ _ _ h => h) tripsBounded_powerOn (fun _ _ h => h)
    (fun s _ h ch => by rcases s.chan_tick ch with e | e <;> rw [e] <;> exact h ch)
    fun _ _ _ h ha hs ch => h.keeps_chan (P := TripsOk) (fun _ _ k => k.tripsOk ha) (hs ch)

theorem ChanChange.locked {s : State} {ch : Ch} {c d : Channel} (h : ChanChange i s ch c d)
    (kept : s.AdmissionKept) (hc : c.st = .locked ∨ ClearsChannel i ch) : d.st = .locked ∨ ClearsChannel i ch := by
  rcases hc with hc | hc
  · cases h with
    | cleared h => exact .inr h
    | profile hoff => rw [hc] at hoff; exact nomatch hoff
    | rests _ hl => exact absurd hc hl
    | leaves ha => exact absurd hc (ne_locked_of_admitted ha)
    | trip ha => exact absurd hc (ne_locked_of_admitted ha)
    | enters hl => exact absurd hc (hl kept)
    | window h => rw [hc] at h; exact nomatch h
    | softReset => rw [Channel.softReset_st, hc]; exact .inl rfl
    | stamp => exact .inl hc
    | record => exact .inl hc
    | sample => exact .inl hc
    | marks => exact .inl hc
    | period => exact .inl hc
  · exact .inr hc

theorem step_locked {s t : State} (hstep : step s = .next t) (kept : s.AdmissionKept) {ch : Ch}
    (hl : (s.chan ch).st = .locked) : (t.chan ch).st = .locked ∨
      (∃ zone, s.pending.head? = some (.powerOnReset zone)) ∨
      ∃ c, s.pending.head? = some c ∧ ClearsChannel c ch := by
  rcases step_cases hstep with ⟨zone, head, -⟩ | ⟨-, rfl⟩ | ⟨-, rfl⟩ | ⟨c, head, moves⟩
  · exact .inr (.inl ⟨zone, head⟩)
  · exact .inl hl
  · exact .inl ((samePlace_tick s ch).1.trans hl)
  · have both := moves.keeps
      (I := fun u => u.AdmissionKept ∧ ((u.chan ch).st = .locked ∨ ClearsChannel c ch))
      (fun _ _ h hu => ⟨h.admissionKept hu.1,
        h.keeps_chan (P := fun c' => c'.st = .locked ∨ ClearsChannel c ch) (fun _ _ k => k.locked hu.1) hu.2⟩)
      ⟨kept, .inl hl⟩
    exact both.2.imp_right fun clears => .inr ⟨c, head, clears⟩

/-- Settles O58: only a trip raises a count, and nothing but a CLEAR of the channel and a power-on reset is a
change out of LOCKED. -/
theorem stepKeepsTripsAndLocks : Obligations.StepKeepsTripsAndLocks := by
  unfold Obligations.StepKeepsTripsAndLocks
  intro s t hstep kept
  refine ⟨fun trips => (tripsBounded_kept.step hstep ⟨kept, trips⟩).2, fun ch locked => ?_⟩
  rcases step_locked hstep kept locked with h | ⟨zone, head⟩ | ⟨c, head, src, b, rfl, names⟩
  · exact .inl h
  · exact .inr (by rw [head]; trivial)
  · exact .inr (by rw [head]; exact names)

/-! ### Owners (R35, R39, R117) -/

/-- Whether a DRIVE entry stands in a slot. -/
def State.driveAt (s : State) (ch : Ch) (cl : Client) : Bool := ((s.slot ch cl).map Entry.isDrive).getD false

/-- DRIVE entries stand with the owners of the bridges. -/
def State.DrivesOwned (s : State) : Prop :=
  (∀ ch : Ch, ∀ cl : Client, bridgeOf ch = none → s.driveAt ch cl = false) ∧
  ∀ br : Bridge, (∀ cl : Client, s.driveAt (bridgeChannel br) cl = decide ((s.bridge br).owner = some cl)) ∧
    (s.bridge br).owner ≠ some .wired

/-- A bridge channel is bound to no input and gives no INHIBIT right. -/
def BindingOk (p : Profile) : Prop :=
  p.bindInput = none ∧ ∀ r ∈ [p.rightBody, p.rightEngine, p.rightClimate], r = .none ∨ r = .demand

theorem ownersKept_iff (s : State) : s.OwnersKept ↔
    s.DrivesOwned ∧ ∀ br, BindingOk (s.chan (bridgeChannel br)).profile :=
  ⟨fun h => ⟨⟨h.1, fun br => ⟨(h.2 br).1, (h.2 br).2.1⟩⟩, fun br => ⟨(h.2 br).2.2.1, (h.2 br).2.2.2⟩⟩,
    fun h => ⟨h.1.1, fun br => ⟨(h.1.2 br).1, (h.1.2 br).2, (h.2 br).1, (h.2 br).2⟩⟩⟩

theorem typeOf_bridgeChannel (br : Bridge) : typeOf (bridgeChannel br) = .bridge := by cases br <;> rfl

theorem ChanChange.bindingOk {s : State} {ch : Ch} {c d : Channel} (hch : typeOf ch = .bridge)
    (h : ChanChange i s ch c d) (hc : BindingOk c.profile) : BindingOk d.profile := by
  cases h with
  | profile _ hp => exact ⟨hp.unbound hch hc.1, hp.rights hch hc.2⟩
  | enters => rw [Channel.enterRamping_profile]; exact hc
  | softReset => rw [Channel.softReset_profile]; exact hc
  | stamp => exact hc
  | record => exact hc
  | sample => exact hc
  | marks => exact hc
  | period => exact hc
  | cleared => exact hc
  | rests => exact hc
  | leaves => exact hc
  | trip => exact hc
  | window => exact hc

theorem drivesOwned_congr {s t : State} (drives : ∀ ch cl, t.driveAt ch cl = s.driveAt ch cl)
    (owners : ∀ br, (t.bridge br).owner = (s.bridge br).owner) (h : s.DrivesOwned) : t.DrivesOwned :=
  ⟨fun ch cl hb => (drives ch cl).trans (h.1 ch cl hb), fun br =>
    ⟨fun cl => by rw [drives, owners]; exact (h.2 br).1 cl, by rw [owners]; exact (h.2 br).2⟩⟩

theorem driveAt_setSlot (s : State) (ch x : Ch) (cl y : Client) (o : Option Entry) :
    (s.setSlot ch cl o).driveAt x y =
      if x = ch ∧ y = cl then (o.map Entry.isDrive).getD false else s.driveAt x y := by
  unfold State.driveAt
  rw [State.slot_setSlot]
  split <;> rfl

theorem drivesOwned_setSlot {s : State} {ch : Ch} {cl : Client} {o : Option Entry}
    (ho : (o.map Entry.isDrive).getD false = s.driveAt ch cl) (h : s.DrivesOwned) :
    (s.setSlot ch cl o).DrivesOwned := by
  refine drivesOwned_congr (s := s) (fun x y => ?_) (fun _ => rfl) h
  rw [driveAt_setSlot]
  split
  next e => rw [ho, e.1, e.2]
  next => rfl

theorem bridgeOf_ne_none (br : Bridge) : bridgeOf (bridgeChannel br) ≠ none := by
  rw [bridgeOf_bridgeChannel]; exact nofun

theorem bridgeChannel_inj {x y : Bridge} (h : bridgeChannel x = bridgeChannel y) : x = y := by
  have k := congrArg bridgeOf h
  rw [bridgeOf_bridgeChannel, bridgeOf_bridgeChannel] at k
  exact Option.some.inj k

/-- The owner of one bridge and its entry change together. -/
theorem drivesOwned_owner {s t : State} {br : Bridge} {cl : Client} {o : Option Entry} {owner : Option Client}
    (slots : ∀ x y, t.driveAt x y = (s.setSlot (bridgeChannel br) cl o).driveAt x y)
    (owners : ∀ x, (t.bridge x).owner = if x = br then owner else (s.bridge x).owner)
    (wired : owner ≠ some .wired)
    (here : ∀ y, (if y = cl then (o.map Entry.isDrive).getD false else decide ((s.bridge br).owner = some y)) =
      decide (owner = some y)) (h : s.DrivesOwned) : t.DrivesOwned := by
  refine ⟨fun x y hx => ?_, fun x => ⟨fun y => ?_, ?_⟩⟩
  · rw [slots, driveAt_setSlot, if_neg fun e : x = bridgeChannel br ∧ y = cl => bridgeOf_ne_none br (e.1 ▸ hx)]
    exact h.1 x y hx
  · rw [slots, driveAt_setSlot, owners]
    by_cases hx : x = br
    · subst hx
      rw [if_pos rfl, ← here y]
      by_cases hy : y = cl
      · rw [if_pos ⟨rfl, hy⟩, if_pos hy]
      · rw [if_neg fun e => hy e.2, if_neg hy]; exact (h.2 x).1 y
    · rw [if_neg fun e => hx (bridgeChannel_inj e.1), if_neg hx]; exact (h.2 x).1 y
  · rw [owners]
    split
    · exact wired
    · exact (h.2 x).2

theorem owner_setBridge_if (s : State) (br x : Bridge) (r : BridgeRecord) :
    ((s.setBridge br r).bridge x).owner = if x = br then r.owner else (s.bridge x).owner := by
  rw [State.bridge_setBridge]
  split <;> rfl

theorem drivesOwned_own {s : State} {br : Bridge} {cl : Client} {dir : Direction} {n : Nat} (hw : cl ≠ .wired)
    (ho : (s.bridge br).owner = none ∨ (s.bridge br).owner = some cl) (h : s.DrivesOwned) :
    (s.own br cl dir n).DrivesOwned := by
  refine drivesOwned_owner (o := some (.drive dir n false)) (owner := some cl) (fun _ _ => rfl)
    (fun x => owner_setBridge_if _ br x _) (fun e => hw (Option.some.inj e)) (fun y => ?_) h
  by_cases hy : y = cl
  · simp [hy, Entry.isDrive]
  · have other : ¬ cl = y := fun e => hy e.symm
    rcases ho with e | e <;> simp [hy, other, e]

theorem drivesOwned_disown {s : State} {br : Bridge} {cl : Client} (ho : (s.bridge br).owner = some cl)
    (h : s.DrivesOwned) : (s.disown br cl).DrivesOwned := by
  refine drivesOwned_owner (o := none) (owner := none) (fun _ _ => rfl)
    (fun x => owner_setBridge_if _ br x _) nofun (fun y => ?_) h
  by_cases hy : y = cl
  · simp [hy]
  · have other : ¬ cl = y := fun e => hy e.symm
    simp [hy, other, ho]

theorem driveAt_clearDemands (s : State) (ch : Ch) (cl : Client) : s.clearDemands.driveAt ch cl = false := by
  unfold State.driveAt; rw [slot_clearDemands]; rfl

theorem owner_clearDemands (s : State) (br : Bridge) : (s.clearDemands.bridge br).owner = none := by
  cases br <;> rfl

theorem Edit.drivesOwned {s t : State} (h : Edit i s t) (kept : s.OwnersKept) : t.DrivesOwned := by
  have hs := ((ownersKept_iff s).mp kept).1
  have plain : ∀ {ch cl e}, s.slot ch cl = some e → s.driveAt ch cl = e.isDrive := fun he => by
    unfold State.driveAt; rw [he]; rfl
  rcases h.demand_cases with ⟨same, owners⟩ | rfl | ⟨ch, cl, e, he, hbr, -, rfl⟩ |
    ⟨ch, cl, e, o, at_, he, ho, rfl⟩ | ⟨ch, cl, dir, n, ending, at_, rfl⟩
  · exact drivesOwned_congr (fun ch cl => by unfold State.driveAt; rw [State.slot_congr same]) owners hs
  · exact ⟨fun ch cl _ => driveAt_clearDemands s ch cl, fun br =>
      ⟨fun cl => by rw [driveAt_clearDemands, owner_clearDemands]; rfl, by rw [owner_clearDemands]; exact nofun⟩⟩
  · exact drivesOwned_setSlot ((hs.1 ch cl (hbr kept)).symm ▸ he) hs
  · refine drivesOwned_setSlot ?_ hs
    rw [plain at_, he kept]
    cases o with
    | none => rfl
    | some e' => exact (ho e' rfl).1
  · exact drivesOwned_setSlot (by rw [plain at_]; rfl) hs

theorem Fine.drivesOwned {s t : State} (h : Fine i s t) (kept : s.OwnersKept) : t.DrivesOwned := by
  have hs := ((ownersKept_iff s).mp kept).1
  cases h with
  | edit h => exact h.drivesOwned kept
  | own hw ho => exact drivesOwned_own hw ho hs
  | disown ho => exact drivesOwned_disown ho hs
  | bridge ho => exact drivesOwned_congr (s := s) (fun _ _ => rfl) (owner_setBridge ho) hs
  | trip => exact drivesOwned_congr (s := s) (fun _ _ => rfl) (fun _ => rfl) hs

theorem Fine.ownersKept {s t : State} (h : Fine i s t) (kept : s.OwnersKept) : t.OwnersKept :=
  (ownersKept_iff t).mpr ⟨h.drivesOwned kept, fun br =>
    h.keeps_chan (P := fun c => BindingOk c.profile)
      (fun _ _ => ChanChange.bindingOk (typeOf_bridgeChannel br)) (((ownersKept_iff s).mp kept).2 br)⟩

theorem ownersKept_powerOn (zone : Fin 4) : (State.powerOn zone).OwnersKept := by
  have drives : ∀ ch cl, (State.powerOn zone).driveAt ch cl = false := fun ch cl => by
    unfold State.driveAt; rw [slot_powerOn]; rfl
  have owners : ∀ br, ((State.powerOn zone).bridge br).owner = none := fun br => by cases br <;> rfl
  refine (ownersKept_iff _).mpr ⟨⟨fun ch cl _ => drives ch cl, fun br => ⟨fun cl => ?_, ?_⟩⟩, fun br => ?_⟩
  · rw [drives, owners]; rfl
  · rw [owners]; exact nofun
  · rw [State.chan_powerOn]
    cases br <;> exact ⟨by decide, by decide⟩

theorem Entry.tick_isDrive (e : Entry) : e.tick.isDrive = e.isDrive := by
  cases e with
  | timed d remaining ms =>
    unfold Entry.tick
    dsimp only
    split <;> rfl
  | steady => rfl
  | flash => rfl
  | inhibit => rfl
  | drive => rfl

theorem driveAt_tick (s : State) (ch : Ch) (cl : Client) : s.tick.driveAt ch cl = s.driveAt ch cl := by
  unfold State.driveAt
  rcases s.slot_tick ch cl with e | e <;> rw [e]
  cases s.slot ch cl with
  | none => rfl
  | some e => exact e.tick_isDrive

theorem owner_tick (s : State) (br : Bridge) : (s.tick.bridge br).owner = (s.bridge br).owner := by
  rcases s.bridge_tick br with e | e
  · rw [e]
  · rw [e]; rfl

theorem ownersKept_kept : Kept State.OwnersKept where
  frame _ _ _ h := h
  powerOn := ownersKept_powerOn
  free _ _ h := h
  tick s h := by
    obtain ⟨drives, bindings⟩ := (ownersKept_iff s).mp h
    refine (ownersKept_iff _).mpr ⟨drivesOwned_congr (driveAt_tick s) (owner_tick s) drives, fun br => ?_⟩
    rw [(samePlace_tick s (bridgeChannel br)).2]
    exact bindings br
  fine _ _ _ h hs := h.ownersKept hs

/-! ### Wishes (R12 to R16) -/

/-- What `State.WishesKept` says of one channel. -/
def WishOk (c : Channel) : Prop :=
  match c.st with
  | .off => c.wish = false
  | .tripped => True
  | .locked => True
  | _ => c.wish = true

theorem WishOk.of_same {c d : Channel} (hst : d.st = c.st) (hw : d.wish = c.wish) (h : WishOk c) : WishOk d := by
  unfold WishOk at h ⊢
  rw [hst, hw]; exact h

theorem WishOk.of_wish {c : Channel} (h : c.wish = true) (hst : c.st ≠ .off) : WishOk c := by
  unfold WishOk
  split
  next e => exact absurd e hst
  next => trivial
  next => trivial
  next => exact h

theorem WishOk.wish {c : Channel} (h : WishOk c) (ho : c.st ≠ .off) (ht : c.st ≠ .tripped) (hl : c.st ≠ .locked) :
    c.wish = true := by
  unfold WishOk at h
  split at h
  next e => exact absurd e ho
  next e => exact absurd e ht
  next e => exact absurd e hl
  next => exact h

theorem WishOk.of_admitted {c : Channel} (h : WishOk c) (ha : c.admitted = true) : c.wish = true := by
  refine h.wish ?_ ?_ ?_ <;> intro e <;> simp [Channel.admitted, e] at ha

theorem wishesKept_iff (s : State) : s.WishesKept ↔ ∀ ch, WishOk (s.chan ch) := Iff.rfl

theorem wishOk_setChan {s : State} {ch : Ch} {c : Channel} (hc : WishOk c) (hs : s.WishesKept) :
    (s.setChan ch c).WishesKept := (wishesKept_iff _).mpr fun x => by
  rw [State.chan_setChan]
  split
  · exact hc
  · exact hs x

theorem wishesKept_othersKept {s t : State} {ch : Ch} (others : ∀ x, x ≠ ch → (t.chan x).st = (s.chan x).st ∧
    (t.chan x).wish = (s.chan x).wish) (here : WishOk (t.chan ch)) (hs : s.WishesKept) : t.WishesKept :=
  (wishesKept_iff _).mpr fun x => by
    by_cases e : x = ch
    · rw [e]; exact here
    · exact WishOk.of_same (others x e).1 (others x e).2 (hs x)

theorem Channel.enterRamping_wish (t : ChannelType) (vavg n : Nat) (c : Channel) :
    (c.enterRamping t vavg n).wish = c.wish := by
  unfold Channel.enterRamping
  dsimp only
  split <;> rfl

theorem wish_admitChannel (s : State) (ch : Ch) : ((s.admitChannel ch).chan ch).wish = (s.chan ch).wish := by
  obtain ⟨m, vavg, n, entered⟩ := chan_admitChannel_same s ch
  rw [entered, Channel.enterRamping_wish]

theorem wish_leaveTo (s : State) (ch : Ch) (dest : ChState) :
    ((s.leaveTo ch dest).chan ch).wish = (s.chan ch).wish := by
  unfold State.leaveTo
  dsimp only
  split <;> rw [State.chan_setChan_same] <;> rfl

/-- A channel that was just recorded and then admitted, placed or let go. -/
theorem wishesKept_after {s t : State} {ch : Ch} {c : Channel}
    (others : OthersKept ch (s.setChan ch c) t) (here : WishOk (t.chan ch)) (hs : s.WishesKept) : t.WishesKept :=
  wishesKept_othersKept (s := s) (fun x hx => by
    rw [others x hx, State.chan_setChan, if_neg hx]; exact ⟨rfl, rfl⟩) here hs

theorem wishesKept_tripped {s : State} {ch : Ch} (cause : TripCause) (rms vavg : Nat)
    (ha : (s.chan ch).admitted = true) (hs : s.WishesKept) : (s.tripped ch cause rms vavg).WishesKept := by
  have wish := WishOk.of_admitted (c := s.chan ch) (hs ch) ha
  refine wishOk_setChan (s := s.releaseClaims ch) (WishOk.of_wish wish ?_) hs
  simp only [Channel.afterTrip, Channel.leaveAdmitted, Channel.tripState]
  split <;> simp

theorem Edit.wishesKept {s t : State} (h : Edit i s t) (ha : s.AdmissionKept) (hs : s.WishesKept) :
    t.WishesKept := by
  have wishes : ∀ x, WishOk (s.chan x) := hs
  have chans : ∀ {u : State}, u.chans = s.chans → u.WishesKept := fun e => (wishesKept_iff _).mpr fun x => by
    unfold State.chan; rw [e]; exact hs x
  cases h with
  | other h => exact chans (by rw [h])
  | ports h => exact chans h.chans
  | unit => exact chans rfl
  | budgets => exact chans rfl
  | @record ch _ hw =>
    refine wishOk_setChan ?_ hs
    rcases hw with same | ⟨wants, -, st⟩ | ⟨wants, st⟩
    · exact WishOk.of_same (c := s.chan ch) rfl same (hs ch)
    · exact WishOk.of_wish wants st
    · unfold WishOk
      rcases st with e | e | e
      · change match (s.chan ch).st with | .off => _ | .tripped => _ | .locked => _ | _ => _
        rw [e]; exact wants
      · change match (s.chan ch).st with | .off => _ | .tripped => _ | .locked => _ | _ => _
        rw [e]; trivial
      · change match (s.chan ch).st with | .off => _ | .tripped => _ | .locked => _ | _ => _
        rw [e]; trivial
  | @sample ch => exact wishOk_setChan (WishOk.of_same (c := s.chan ch) rfl rfl (hs ch)) hs
  | @marks ch => exact wishOk_setChan (WishOk.of_same (c := s.chan ch) rfl rfl (hs ch)) hs
  | intervals =>
    refine (wishesKept_iff _).mpr fun x => ?_
    have woken : ({ s with chans := mapChannels Channel.wake s.chans } : State).chan x = (s.chan x).wake :=
      mapChannels_get _ _ _
    rw [woken]; exact WishOk.of_same (c := s.chan x) rfl rfl (hs x)
  | @period ch => exact wishOk_setChan (WishOk.of_same (c := s.chan ch) rfl rfl (hs ch)) hs
  | @cleared ch =>
    refine wishOk_setChan ?_ hs
    by_cases locked : (s.chan ch).st = .locked
    · unfold WishOk Channel.clear; simp [locked]
    · exact WishOk.of_same (c := s.chan ch) (by simp [Channel.clear, locked]) rfl (hs ch)
  | @profile ch => exact wishOk_setChan (WishOk.of_same (c := s.chan ch) rfl rfl (hs ch)) hs
  | @leave ch c dest _ _ hd =>
    refine wishesKept_after (othersKept_leaveTo (s.setChan ch c) ch dest) ?_ hs
    have st := leaveTo_st (s.setChan ch c) ch dest
    have wish := wish_leaveTo (s.setChan ch c) ch dest
    rw [State.chan_setChan_same] at wish
    rcases hd with ⟨rfl, ends⟩ | ⟨hd, wants⟩
    · unfold WishOk; rw [st]; exact wish.trans ends
    · refine WishOk.of_wish (wish.trans ?_) (by rw [st]; rcases hd with e | e <;> simp [e])
      rcases wants with w | ⟨rfl, w⟩
      · exact w
      · exact (wishes ch).wish (by rcases w with e | e | e | e <;> simp [e])
          (by rcases w with e | e | e | e <;> simp [e]) (by rcases w with e | e | e | e <;> simp [e])
  | @place ch c _ _ hw =>
    refine wishesKept_after (othersKept_place (s.setChan ch c) ch) ?_ hs
    rw [State.chan_place, if_pos rfl, State.chan_setChan_same]
    have wish : c.wish = true := by
      rcases hw with w | ⟨rfl, w⟩
      · exact w
      · exact (wishes ch).wish (by rcases w with e | e <;> simp [e]) (by rcases w with e | e <;> simp [e])
          (by rcases w with e | e <;> simp [e])
    exact WishOk.of_wish wish nofun
  | @bypass ch c _ _ hw =>
    refine wishesKept_after (othersKept_admitChannel (s.setChan ch c) ch) ?_ hs
    refine WishOk.of_wish ((wish_admitChannel _ ch).trans ?_) (by rw [st_admitChannel_same]; exact nofun)
    rw [State.chan_setChan_same]
    rcases hw with w | ⟨rfl, w⟩
    · exact w
    · exact (wishes ch).wish (by simp [w]) (by simp [w]) (by simp [w])
  | @head f e rest hq =>
    have waits := ((ha.1 f).1.1 e (hq ▸ List.mem_cons_self)).2.1
    refine wishesKept_othersKept (s := s) (ch := e.ch) (fun x hx => ?_) ?_ hs
    · rw [othersKept_admitChannel (s.setUnit f { s.unit f with queue := rest }) e.ch x hx]; exact ⟨rfl, rfl⟩
    · refine WishOk.of_wish ((wish_admitChannel _ e.ch).trans ?_) (by rw [st_admitChannel_same]; exact nofun)
      exact (wishes e.ch).wish (by simp [waits]) (by simp [waits]) (by simp [waits])
  | @trip ch cause rms vavg _ adm => exact wishesKept_tripped cause rms vavg adm hs
  | @window ch h =>
    have wish := (wishes ch).of_admitted (admitted_of_ramping h)
    exact wishOk_setChan (s := s) (WishOk.of_wish wish nofun) hs
  | put => exact chans rfl
  | amend => exact chans rfl
  | mark => exact chans rfl
  | bridge => exact chans rfl
  | clearDemands =>
    refine (wishesKept_iff _).mpr fun x => ?_
    rw [chan_clearDemands]
    unfold WishOk
    rw [Channel.softReset_st]
    split
    next e => split at e <;> rfl
    · trivial
    · trivial
    next no nt nl =>
      split at no <;> simp_all

theorem Fine.wishesKept {s t : State} (h : Fine i s t) (ha : s.AdmissionKept) (hs : s.WishesKept) :
    t.WishesKept := by
  cases h with
  | edit h => exact h.wishesKept ha hs
  | own => exact hs
  | disown => exact hs
  | bridge => exact hs
  | @trip ch cause rms vavg adm => exact wishesKept_tripped cause rms vavg adm hs

end Sys2Proof.Machine
end

section
/-!
PROOF. Bridges with their channels (R100, R116 to R123): what a bridge's channel holds is told by which of its
slots are taken; each move keeps one bridge's claims, and with the units, the owners and the wishes all of them.
-/
namespace Sys2Proof.Machine

variable {i : Instr}

/-! ### The demand of a bridge channel -/

/-- A channel that holds no entry but a DRIVE. -/
def State.OnlyDrives (s : State) (ch : Ch) : Prop := ∀ cl e, s.slot ch cl = some e → e.isDrive = true

theorem combined_of_empty {s : State} {ch : Ch} (h : ∀ cl, s.slot ch cl = none) :
    s.combined ch = ⟨false, false, 0⟩ := by
  have none : s.entries ch = [] := by simp [State.entries, h]
  unfold State.combined
  rw [none]
  rfl

theorem State.OnlyDrives.free {s : State} {ch : Ch} (h : s.OnlyDrives ch) (cl : Client) :
    s.slot ch cl ≠ some .inhibit := fun e => nomatch h cl _ e

theorem combined_of_drive {s : State} {ch : Ch} (h : s.OnlyDrives ch) (standing : ∃ cl, s.slot ch cl ≠ none) :
    s.combined ch = ⟨false, true, 1000⟩ := by
  have inhibited : (s.combined ch).inhibited = false := (combined_not_inhibited_iff s ch).mpr h.free
  have wants : (s.combined ch).wants = true := (combined_wants_iff s ch).mpr ⟨h.free, standing⟩
  obtain ⟨⟨cl, e, slot, duty⟩, -⟩ := combined_duty_isGreatest h.free standing
  have full : (s.combined ch).duty = 1000 := by
    obtain ⟨dir, n, m, rfl⟩ := (Entry.isDrive_iff e).mp (h cl e slot)
    exact duty.symm
  cases hc : s.combined ch with
  | mk a b c =>
    rw [hc] at inhibited wants full
    cases inhibited; cases wants; cases full
    rfl

theorem combined_of_drives {s t : State} {ch : Ch} (hs : s.OnlyDrives ch) (ht : t.OnlyDrives ch)
    (same : ∀ cl, t.slot ch cl = none ↔ s.slot ch cl = none) : t.combined ch = s.combined ch := by
  by_cases empty : ∀ cl, s.slot ch cl = none
  · rw [combined_of_empty empty, combined_of_empty fun cl => (same cl).mpr (empty cl)]
  · obtain ⟨cl, standing⟩ := not_forall.mp empty
    rw [combined_of_drive hs ⟨cl, standing⟩, combined_of_drive ht ⟨cl, fun e => standing ((same cl).mp e)⟩]

/-! ### One bridge -/

/-- A channel's values handed over and whether it is admitted stay as they are. -/
def SameStand (c d : Channel) : Prop :=
  d.pending = c.pending ∧ d.wish = c.wish ∧ d.inhibited = c.inhibited ∧ d.admitted = c.admitted

theorem SameStand.refl (c : Channel) : SameStand c c := ⟨rfl, rfl, rfl, rfl⟩

theorem bridgeKept_iff (s : State) (br : Bridge) : s.BridgeKept br ↔ s.OnlyDrives (bridgeChannel br) ∧
    s.HandedOver (bridgeChannel br) ∧
    ((s.bridge br).st ≠ .idle ↔ (s.chan (bridgeChannel br)).admitted = true) := Iff.rfl

theorem handedOver_congr {s t : State} {ch : Ch} (combined : t.combined ch = s.combined ch)
    (chan : SameStand (s.chan ch) (t.chan ch)) (h : s.HandedOver ch) : t.HandedOver ch := by
  obtain ⟨pending, wish, inhibited, -⟩ := chan
  unfold State.HandedOver
  rw [combined, pending, wish, inhibited]
  exact h

theorem bridgeKept_congr {s t : State} {br : Bridge}
    (drives : t.OnlyDrives (bridgeChannel br))
    (slots : ∀ cl, t.slot (bridgeChannel br) cl = none ↔ s.slot (bridgeChannel br) cl = none)
    (chan : SameStand (s.chan (bridgeChannel br)) (t.chan (bridgeChannel br)))
    (idle : (t.bridge br).st = .idle ↔ (s.bridge br).st = .idle) (h : s.BridgeKept br) : t.BridgeKept br := by
  obtain ⟨drives₀, handed, stands⟩ := h
  refine ⟨drives, handedOver_congr (combined_of_drives drives₀ drives slots) chan handed, ?_⟩
  rw [chan.2.2.2, ← stands]
  exact not_congr idle

theorem bridgeKept_same {s t : State} {br : Bridge} (demand : t.demand = s.demand)
    (chan : SameStand (s.chan (bridgeChannel br)) (t.chan (bridgeChannel br)))
    (idle : (t.bridge br).st = .idle ↔ (s.bridge br).st = .idle) (h : s.BridgeKept br) : t.BridgeKept br :=
  bridgeKept_congr (fun cl e he => h.1 cl e (by rwa [State.slot_congr demand] at he))
    (fun cl => by rw [State.slot_congr demand]) chan idle h

theorem Told.handed {s : State} {ch : Ch} {c : Channel} (h : Told s ch c) (handed : s.HandedOver ch) :
    c = s.chan ch := h.resolve_right fun k => k.1 handed

theorem sameStand_setChan {s : State} {ch : Ch} {c : Channel} (h : SameStand (s.chan ch) c) (x : Ch) :
    SameStand (s.chan x) ((s.setChan ch c).chan x) := by
  rw [State.chan_setChan]
  split
  next e => subst e; exact h
  next => exact .refl _

theorem sameStand_other {s t : State} {ch x : Ch} {c : Channel} (others : OthersKept ch (s.setChan ch c) t)
    (hx : x ≠ ch) : SameStand (s.chan x) (t.chan x) := by
  rw [others x hx, State.chan_setChan, if_neg hx]; exact ⟨rfl, rfl, rfl, rfl⟩

theorem sameStand_handed {s t : State} {ch : Ch} (h : Handed s t)
    (ha : (t.chan ch).admitted = (s.chan ch).admitted) : SameStand (s.chan ch) (t.chan ch) :=
  ⟨(h.sameWish ch).1, (h.sameWish ch).2.1, (h.sameWish ch).2.2, ha⟩

/-! ### Admissions and bridges -/

theorem bridge_enterRamping_other {s : State} {ch : Ch} {n : Nat} {br : Bridge} (h : ch ≠ bridgeChannel br) :
    (s.enterRamping ch n).bridge br = s.bridge br := by
  unfold State.enterRamping
  dsimp only
  split
  next x hx =>
    have ne : br ≠ x := fun e => h (e ▸ bridgeOf_eq_some hx)
    unfold State.startBridge
    rw [State.bridge_setBridge, if_neg ne, State.bridge_setChan]
  next => rfl

theorem bridge_enterRamping_same (s : State) (br : Bridge) (n : Nat) :
    ((s.enterRamping (bridgeChannel br) n).bridge br).st = .dead .beforeDrive := by
  unfold State.enterRamping
  rw [bridgeOf_bridgeChannel]
  unfold State.startBridge
  dsimp only
  rw [State.bridge_setBridge_same]

theorem bridge_admitChannel_other {s : State} {ch : Ch} {br : Bridge} (h : ch ≠ bridgeChannel br) :
    (s.admitChannel ch).bridge br = s.bridge br := by
  unfold State.admitChannel
  dsimp only
  rw [bridge_enterRamping_other h]
  unfold State.bridge
  rw [bridges_countAdmission]
  rfl

theorem bridge_admitChannel_same (s : State) (br : Bridge) :
    ((s.admitChannel (bridgeChannel br)).bridge br).st = .dead .beforeDrive :=
  bridge_enterRamping_same _ br _

theorem bridge_leaveTo (s : State) (ch : Ch) (dest : ChState) (br : Bridge) :
    (s.leaveTo ch dest).bridge br = s.bridge br := by
  unfold State.bridge; rw [State.bridges_leaveTo]

theorem admitted_admitChannel (s : State) (ch : Ch) : ((s.admitChannel ch).chan ch).admitted = true :=
  admitted_of_ramping (st_admitChannel_same s ch)

theorem not_admitted_leaveTo {s : State} {ch : Ch} {dest : ChState}
    (hd : dest = .off ∨ dest = .shed ∨ dest = .suspended) : ((s.leaveTo ch dest).chan ch).admitted = false := by
  unfold Channel.admitted
  rw [leaveTo_st]
  rcases hd with e | e | e <;> simp [e]

/-- An admission of the bridge's own channel, handed over before it. -/
theorem bridgeKept_admit {s t : State} {br : Bridge} (only : OnlyAdmission s t) (handed : Handed s t)
    (ha : (t.chan (bridgeChannel br)).admitted = true) (hb : (t.bridge br).st ≠ .idle) (h : s.BridgeKept br) :
    t.BridgeKept br := by
  refine ⟨fun cl e he => h.1 cl e (by rwa [State.slot_congr only.demand] at he), ?_, fun _ => ha, fun _ => hb⟩
  obtain ⟨pending, wish, inhibited⟩ := handed.sameWish (bridgeChannel br)
  unfold State.HandedOver
  rw [combined_congr only.demand only.groups, pending, wish, inhibited]
  exact h.2.1

theorem Edit.bridgeKept {s t : State} (h : Edit i s t) (kept : s.Coherent) (br : Bridge) : t.BridgeKept br := by
  obtain ⟨adm, owners, wishes, bridges⟩ := kept
  have hs : s.BridgeKept br := bridges br
  have handed := hs.2.1
  have chanOnly : ∀ {ch : Ch} {c : Channel}, SameStand (s.chan ch) c → (s.setChan ch c).BridgeKept br :=
    fun k => bridgeKept_same (s := s) rfl (sameStand_setChan k _) Iff.rfl hs
  have slotOnly : ∀ {ch : Ch} {cl : Client} {o : Option Entry}, ch ≠ bridgeChannel br →
      (s.setSlot ch cl o).BridgeKept br := fun {ch cl o} ne => by
    have same : ∀ y, (s.setSlot ch cl o).slot (bridgeChannel br) y = s.slot (bridgeChannel br) y := fun y => by
      rw [State.slot_setSlot, if_neg fun e => ne e.1.symm]
    exact bridgeKept_congr (s := s) (fun y e he => hs.1 y e (by rwa [same] at he)) (fun y => by rw [same]) (.refl _)
      Iff.rfl hs
  cases h with
  | other h => exact bridgeKept_same (by rw [h]) (by rw [h]; exact .refl _) (by rw [h]; exact Iff.rfl) hs
  | ports h => exact bridgeKept_same h.demand (by rw [h.chan]; exact .refl _) (by rw [h.bridge]) hs
  | unit => exact hs
  | budgets => exact hs
  | @record ch hn =>
    have ne : bridgeChannel br ≠ ch := fun e => hn (e ▸ handed)
    exact bridgeKept_same (s := s) rfl (by rw [State.chan_setChan, if_neg ne]; exact .refl _) Iff.rfl hs
  | sample => exact chanOnly ⟨rfl, rfl, rfl, rfl⟩
  | marks => exact chanOnly ⟨rfl, rfl, rfl, rfl⟩
  | intervals =>
    refine bridgeKept_same (s := s) rfl ?_ Iff.rfl hs
    have woken : ({ s with chans := mapChannels Channel.wake s.chans } : State).chan (bridgeChannel br) =
      (s.chan (bridgeChannel br)).wake := mapChannels_get _ _ _
    rw [woken]; exact ⟨rfl, rfl, rfl, rfl⟩
  | period => exact chanOnly ⟨rfl, rfl, rfl, rfl⟩
  | @cleared ch =>
    refine chanOnly ⟨rfl, rfl, rfl, ?_⟩
    by_cases locked : (s.chan ch).st = .locked <;> simp [Channel.clear, Channel.admitted, locked]
  | profile => exact chanOnly ⟨rfl, rfl, rfl, rfl⟩
  | @leave ch c dest hc _ hd hbr =>
    refine bridgeKept_same (s := s) (only_leaveTo (s.setChan ch c) ch dest).demand ?_
      (by rw [bridge_leaveTo]; exact Iff.rfl) hs
    by_cases e : bridgeChannel br = ch
    · subst e
      have same := hc.handed handed
      subst same
      rw [State.setChan_chan]
      refine sameStand_handed (handed_leaveTo _ _ _) ?_
      rw [not_admitted_leaveTo (by rcases hd with ⟨e, -⟩ | ⟨e | e, -⟩ <;> simp [e])]
      exact ((hbr handed).resolve_left (bridgeOf_ne_none br)).symm
    · exact sameStand_other (s := s) (othersKept_leaveTo (s.setChan ch c) ch dest) e
  | @place ch c hc hst =>
    refine bridgeKept_same (s := s) (only_place (s.setChan ch c) ch).demand ?_ Iff.rfl hs
    by_cases e : bridgeChannel br = ch
    · subst e
      have same := hc.handed handed
      subst same
      rw [State.setChan_chan]
      refine sameStand_handed (handed_place _ _) ?_
      rw [State.chan_place, if_pos rfl]
      rcases hst with e | e | e | e <;> simp [Channel.admitted, e]
    · exact sameStand_other (s := s) (othersKept_place (s.setChan ch c) ch) e
  | @bypass ch c hc =>
    by_cases e : bridgeChannel br = ch
    · subst e
      have same := hc.handed handed
      subst same
      rw [State.setChan_chan]
      exact bridgeKept_admit (only_admit _ _) (handed_admitChannel _ _) (admitted_admitChannel _ _)
        (by rw [bridge_admitChannel_same]; exact nofun) hs
    · exact bridgeKept_same (s := s) (only_admit (s.setChan ch c) ch).demand
        (sameStand_other (s := s) (othersKept_admitChannel (s.setChan ch c) ch) e)
        (by rw [bridge_admitChannel_other fun k => e k.symm]; exact Iff.rfl) hs
  | @head f e rest hq =>
    set s' := s.setUnit f { s.unit f with queue := rest } with hs'
    have before : s'.BridgeKept br := hs
    by_cases k : bridgeChannel br = e.ch
    · rw [← k]
      exact bridgeKept_admit (only_admit _ _) (handed_admitChannel _ _) (admitted_admitChannel _ _)
        (by rw [bridge_admitChannel_same]; exact nofun) before
    · refine bridgeKept_same (only_admit s' e.ch).demand ?_
        (by rw [bridge_admitChannel_other fun x => k x.symm]) before
      rw [othersKept_admitChannel s' e.ch _ k]
      exact ⟨rfl, rfl, rfl, rfl⟩
  | @trip ch cause rms vavg hbr =>
    have ne : bridgeChannel br ≠ ch := fun e => bridgeOf_ne_none br (e ▸ hbr)
    exact bridgeKept_same (s := s) rfl (by rw [State.chan_setChan, if_neg ne]; exact .refl _) Iff.rfl hs
  | @window ch h =>
    have stand : SameStand (s.chan ch) { s.chan ch with st := .on, window := none, goodRun := some 0 } :=
      ⟨rfl, rfl, rfl, by simp [Channel.admitted, h]⟩
    exact bridgeKept_same (s := s) rfl (sameStand_setChan (s := s) stand (bridgeChannel br)) Iff.rfl hs
  | put _ hbr => exact slotOnly fun e => bridgeOf_ne_none br (e ▸ hbr owners)
  | @amend ch cl e o at_ he =>
    refine slotOnly fun k => ?_
    subst k
    rw [hs.1 cl e at_] at he
    exact nomatch he owners
  | @mark ch cl dir n ending at_ =>
    by_cases k : ch = bridgeChannel br
    · subst k
      refine bridgeKept_congr (s := s) (fun y e he => ?_) (fun y => ?_) (.refl _) Iff.rfl hs
      · rw [State.slot_setSlot] at he
        split at he
        · cases he; rfl
        · exact hs.1 y e he
      · rw [State.slot_setSlot]
        split
        next e => rw [e.2, at_]; exact ⟨nofun, nofun⟩
        next => exact Iff.rfl
    · exact slotOnly k
  | @bridge br' r _ hi =>
    refine bridgeKept_same (s := s) rfl (.refl _) ?_ hs
    rw [State.bridge_setBridge]
    split
    next e => subst e; exact hi
    next => exact Iff.rfl
  | clearDemands =>
    have idle : (s.clearDemands.bridge br).st = .idle := by cases br <;> rfl
    have rests : (s.clearDemands.chan (bridgeChannel br)).admitted = false := by
      rw [chan_clearDemands]; exact (Channel.softReset_rests _).1
    refine ⟨fun cl e he => ?_, ?_, ?_⟩
    · rw [slot_clearDemands] at he; exact nomatch he
    · unfold State.HandedOver
      rw [combined_of_empty (slot_clearDemands s _), chan_clearDemands]
      exact ⟨rfl, rfl, rfl⟩
    · rw [idle, rests]; exact ⟨fun k => absurd rfl k, nofun⟩

/-! ### The hand-over at a bridge -/

/-- What a hand-over does: nothing, a record alone, a start, or a leave for OFF (R12 to R16, R43). -/
theorem handOver_cases (s : State) (ch : Ch) :
    let d := s.combined ch
    let u := s.setChan ch ((s.chan ch).record (typeOf ch) d)
    (s.HandedOver ch ∧ s.handOver ch = s) ∨
    (s.handOver ch = u ∧ (d.wants = false → (s.chan ch).admitted = true → (s.chan ch).wish = false)) ∨
    ((s.chan ch).st = .off ∧ d.wants = true ∧ s.handOver ch = u.startCore ch) ∨
    (d.wants = false ∧ s.handOver ch = u.leaveTo ch .off) := by
  dsimp only
  unfold State.handOver
  dsimp only
  split
  next same => exact .inl ⟨⟨same.1.symm, same.2.1.symm, same.2.2.symm⟩, rfl⟩
  next =>
    right
    split
    next same => exact .inl ⟨rfl, fun k _ => same.symm.trans k⟩
    next =>
      split
      next wants =>
        split
        next off => exact .inr (.inl ⟨off, wants, rfl⟩)
        next => exact .inl ⟨rfl, fun k => by rw [wants] at k; exact nomatch k⟩
      next noWants =>
        have noWants : (s.combined ch).wants = false := by simpa using noWants
        have resting : ∀ {st : ChState}, (s.chan ch).st = st → (st = .off ∨ st = .tripped ∨ st = .locked) →
            (s.chan ch).admitted ≠ true := fun e h => by
          rcases h with h | h | h <;> simp [Channel.admitted, e, h]
        unfold State.wishEnds
        rw [State.chan_setChan_same]
        split
        next e => exact .inl ⟨rfl, fun _ k => absurd k (resting (st := _) e (.inl rfl))⟩
        next e => exact .inl ⟨rfl, fun _ k => absurd k (resting (st := _) e (.inr (.inl rfl)))⟩
        next e => exact .inl ⟨rfl, fun _ k => absurd k (resting (st := _) e (.inr (.inr rfl)))⟩
        next => exact .inr (.inr ⟨noWants, rfl⟩)

theorem only_startCore (s : State) (ch : Ch) : OnlyAdmission s (s.startCore ch) := by
  unfold State.startCore
  split
  · exact only_admit s ch
  · exact only_place s ch
  · exact only_setChan s ch _

theorem handed_startCore (s : State) (ch : Ch) : Handed s (s.startCore ch) := by
  unfold State.startCore
  split
  · exact handed_admitChannel s ch
  · exact handed_place s ch
  · exact handed_setChan s ch _ ⟨.refl _, rfl, rfl, rfl⟩

theorem only_handOver (s : State) (ch : Ch) : OnlyAdmission s (s.handOver ch) := by
  rcases handOver_cases s ch with ⟨-, e⟩ | ⟨e, -⟩ | ⟨-, -, e⟩ | ⟨-, e⟩ <;> rw [e]
  · exact .refl s
  · exact only_setChan s ch _
  · exact (only_setChan s ch _).trans (only_startCore _ ch)
  · exact (only_setChan s ch _).trans (only_leaveTo _ ch _)

/-- The values recorded are the ones handed over (R43). -/
theorem handedOver_recorded {s t : State} {ch : Ch}
    (only : OnlyAdmission (s.setChan ch ((s.chan ch).record (typeOf ch) (s.combined ch))) t)
    (handed : Handed (s.setChan ch ((s.chan ch).record (typeOf ch) (s.combined ch))) t) : t.HandedOver ch := by
  obtain ⟨pending, wish, inhibited⟩ := handed.sameWish ch
  unfold State.HandedOver
  rw [combined_congr (s := s) only.demand only.groups, pending, wish, inhibited, State.chan_setChan_same]
  exact ⟨rfl, rfl, rfl⟩

theorem handOver_handedOver (s : State) (ch : Ch) : (s.handOver ch).HandedOver ch := by
  rcases handOver_cases s ch with ⟨h, e⟩ | ⟨e, -⟩ | ⟨-, -, e⟩ | ⟨-, e⟩ <;> rw [e]
  · exact h
  · exact handedOver_recorded (.refl _) (.refl _)
  · exact handedOver_recorded (only_startCore _ ch) (handed_startCore _ ch)
  · exact handedOver_recorded (only_leaveTo _ ch _) (handed_leaveTo _ ch _)

theorem bridge_startCore_other {s : State} {ch : Ch} {br : Bridge} (h : ch ≠ bridgeChannel br) :
    (s.startCore ch).bridge br = s.bridge br := by
  unfold State.startCore
  split
  · exact bridge_admitChannel_other h
  · rfl
  · rfl

theorem bridge_handOver_other {s : State} {ch : Ch} {br : Bridge} (h : ch ≠ bridgeChannel br) :
    (s.handOver ch).bridge br = s.bridge br := by
  rcases handOver_cases s ch with ⟨-, e⟩ | ⟨e, -⟩ | ⟨-, -, e⟩ | ⟨-, e⟩ <;> rw [e]
  · rfl
  · exact bridge_startCore_other h
  · exact bridge_leaveTo _ _ _ _

/-- A channel that takes the state of R14's table is admitted exactly if its bridge has been started. -/
theorem startCore_stands {s : State} {br : Bridge} (idle : (s.bridge br).st = .idle) :
    ((s.startCore (bridgeChannel br)).bridge br).st ≠ .idle ↔
      ((s.startCore (bridgeChannel br)).chan (bridgeChannel br)).admitted = true := by
  unfold State.startCore
  split
  · rw [bridge_admitChannel_same, admitted_admitChannel]; exact ⟨fun _ => rfl, fun _ => nofun⟩
  · rw [State.chan_place, if_pos rfl]; exact ⟨fun k => absurd idle k, nofun⟩
  next nr nw =>
    rw [State.chan_setChan_same]; exact ⟨fun k => absurd idle k, nofun⟩

/-- After a hand-over a bridge's channel and its sequencer agree: either they did before it, or the bridge was
idle and the wish that kept its channel admitted has ended. -/
theorem handOver_bridgeKept {s : State} {br : Bridge} (drives : s.OnlyDrives (bridgeChannel br))
    (runs : (s.bridge br).st ≠ .idle → (s.chan (bridgeChannel br)).admitted = true)
    (stands : (s.chan (bridgeChannel br)).admitted = true →
      ((s.bridge br).st ≠ .idle ∧ (s.combined (bridgeChannel br)).wants = true) ∨
      ((s.bridge br).st = .idle ∧ (s.combined (bridgeChannel br)).wants = false ∧
        (s.chan (bridgeChannel br)).wish = true)) :
    (s.handOver (bridgeChannel br)).BridgeKept br := by
  refine ⟨fun cl e he => drives cl e (by rwa [State.slot_congr (only_handOver _ _).demand] at he),
    handOver_handedOver _ _, ?_⟩
  rcases handOver_cases s (bridgeChannel br) with ⟨handed, e⟩ | ⟨e, ends⟩ | ⟨off, -, e⟩ | ⟨noWants, e⟩ <;> rw [e]
  · refine ⟨runs, fun ha => ?_⟩
    rcases stands ha with ⟨k, -⟩ | ⟨-, noWants, wish⟩
    · exact k
    · rw [handed.2.1, noWants] at wish; exact nomatch wish
  · have same : ((s.setChan (bridgeChannel br) ((s.chan (bridgeChannel br)).record (typeOf (bridgeChannel br))
        (s.combined (bridgeChannel br)))).chan (bridgeChannel br)).admitted =
        (s.chan (bridgeChannel br)).admitted := by rw [State.chan_setChan_same]; rfl
    rw [same, State.bridge_setChan]
    refine ⟨runs, fun ha => ?_⟩
    rcases stands ha with ⟨k, -⟩ | ⟨-, noWants, wish⟩
    · exact k
    · rw [ends noWants ha] at wish; exact nomatch wish
  · have idle : (s.bridge br).st = .idle := by
      by_contra k
      have ha := runs k
      simp [Channel.admitted, off] at ha
    exact startCore_stands (s := s.setChan _ _) idle
  · have rests := not_admitted_leaveTo (s := s.setChan (bridgeChannel br) ((s.chan (bridgeChannel br)).record
      (typeOf (bridgeChannel br)) (s.combined (bridgeChannel br)))) (ch := bridgeChannel br) (dest := .off) (.inl rfl)
    rw [rests, bridge_leaveTo, State.bridge_setChan]
    refine ⟨fun k => ?_, nofun⟩
    rcases stands (runs k) with ⟨-, wants⟩ | ⟨idle, -⟩
    · rw [noWants] at wants; exact nomatch wants
    · exact absurd idle k

theorem handOver_other_bridgeKept {s : State} {ch : Ch} {br : Bridge} (h : ch ≠ bridgeChannel br)
    (hs : s.BridgeKept br) : (s.handOver ch).BridgeKept br := by
  refine bridgeKept_same (only_handOver s ch).demand ?_ (by rw [bridge_handOver_other h]) hs
  rw [othersKept_handOver s ch _ h.symm]
  exact ⟨rfl, rfl, rfl, rfl⟩

/-! ### The moves that a bridge and its channel make together -/

/-- A write at one bridge's channel and sequencer, seen from another bridge. -/
theorem bridgeKept_elsewhere {s t : State} {x : Bridge}
    (slots : ∀ cl, t.slot (bridgeChannel x) cl = s.slot (bridgeChannel x) cl)
    (chan : t.chan (bridgeChannel x) = s.chan (bridgeChannel x)) (bridge : t.bridge x = s.bridge x)
    (hs : s.BridgeKept x) : t.BridgeKept x :=
  bridgeKept_congr (fun cl e he => hs.1 cl e (by rwa [slots] at he)) (fun cl => by rw [slots])
    (by rw [chan]; exact .refl _) (by rw [bridge]) hs

theorem slot_setSlot_bridge {s : State} {br x : Bridge} (hx : x ≠ br) (cl y : Client) (o : Option Entry) :
    (s.setSlot (bridgeChannel br) cl o).slot (bridgeChannel x) y = s.slot (bridgeChannel x) y := by
  rw [State.slot_setSlot, if_neg fun e => hx (bridgeChannel_inj e.1)]

theorem bridgeChannel_ne {x br : Bridge} (hx : x ≠ br) : bridgeChannel br ≠ bridgeChannel x :=
  fun e => hx (bridgeChannel_inj e).symm

theorem bridgeKept_drive {s : State} {br x : Bridge} {cl : Client} {dir : Direction} {n : Nat}
    (hs : s.BridgeKept x) :
    (((s.own br cl dir n).driveTaken br dir n).handOver (bridgeChannel br)).BridgeKept x := by
  obtain ⟨r, taken, -, idle, -⟩ := driveTaken_eq (s.own br cl dir n) br dir n
  rw [taken]
  by_cases hx : x = br
  · subst hx
    set u := (s.own x cl dir n).setBridge x r with hu
    have slot : ∀ y, u.slot (bridgeChannel x) y =
        if y = cl then some (.drive dir n false) else s.slot (bridgeChannel x) y := fun y => by
      change (s.setSlot (bridgeChannel x) cl _).slot (bridgeChannel x) y = _
      rw [State.slot_setSlot]
      exact if_congr (and_iff_right rfl) rfl rfl
    have drives : u.OnlyDrives (bridgeChannel x) := fun y e he => by
      rw [slot] at he
      split at he
      · cases he; rfl
      · exact hs.1 y e he
    have wants : (u.combined (bridgeChannel x)).wants = true := by
      rw [combined_of_drive drives ⟨cl, by rw [slot, if_pos rfl]; exact nofun⟩]
    have st : (u.bridge x).st = .idle ↔ (s.bridge x).st = .idle := by
      rw [hu, State.bridge_setBridge_same, idle]
      unfold State.own
      rw [State.bridge_setBridge_same]
    exact handOver_bridgeKept drives (fun k => hs.2.2.mp fun e => k (st.mpr e))
      fun ha => .inl ⟨fun e => hs.2.2.mpr ha (st.mp e), wants⟩
  · refine handOver_other_bridgeKept (bridgeChannel_ne hx)
      (bridgeKept_elsewhere (s := s) (fun y => slot_setSlot_bridge hx cl y _) rfl ?_ hs)
    rw [State.bridge_setBridge, if_neg hx]
    unfold State.own
    rw [State.bridge_setBridge, if_neg hx]
    rfl

/-- The slots of a bridge are the owner's alone. -/
theorem slot_of_owner {s : State} (owners : s.OwnersKept) {br : Bridge} (drives : s.OnlyDrives (bridgeChannel br))
    (cl : Client) : s.slot (bridgeChannel br) cl = none ↔ (s.bridge br).owner ≠ some cl := by
  have h : s.driveAt (bridgeChannel br) cl = decide ((s.bridge br).owner = some cl) := (owners.2 br).1 cl
  unfold State.driveAt at h
  constructor
  · intro e k
    rw [e, k] at h
    simp at h
  · intro k
    cases e : s.slot (bridgeChannel br) cl with
    | none => rfl
    | some d =>
      rw [e] at h
      have := drives cl d e
      simp [this, k] at h

theorem OverFrom.chan {br : Bridge} {s s' : State} (h : OverFrom br s s') :
    (s'.chan (bridgeChannel br)).wish = (s.chan (bridgeChannel br)).wish ∧
    (s'.chan (bridgeChannel br)).pending = (s.chan (bridgeChannel br)).pending ∧
    (s'.chan (bridgeChannel br)).inhibited = (s.chan (bridgeChannel br)).inhibited ∧
    ((s'.chan (bridgeChannel br)).admitted = true → (s.chan (bridgeChannel br)).admitted = true) := by
  rcases h with rfl | ⟨ha, cause, rms, vavg, rfl⟩
  · exact ⟨rfl, rfl, rfl, id⟩
  · have chan : (s.tripped (bridgeChannel br) cause rms vavg).chan (bridgeChannel br) =
        (s.chan (bridgeChannel br)).afterTrip cause rms vavg := State.chan_setChan_same _ _ _
    rw [chan]
    exact ⟨rfl, rfl, rfl, fun _ => ha⟩

theorem OverFrom.rest {br : Bridge} {s s' : State} (h : OverFrom br s s') :
    s'.demand = s.demand ∧ s'.bridges = s.bridges ∧ ∀ x, x ≠ bridgeChannel br → s'.chan x = s.chan x := by
  rcases h with rfl | ⟨-, cause, rms, vavg, rfl⟩
  · exact ⟨rfl, rfl, fun _ _ => rfl⟩
  · exact ⟨rfl, rfl, fun x hx => by unfold State.tripped; rw [State.chan_setChan, if_neg hx]; rfl⟩

theorem bridgeKept_finish {s s' u : State} {br x : Bridge} {r : BridgeRecord} (owners : s.OwnersKept)
    (wishes : s.WishesKept) (start : OverFrom br s s') (only : OnlyPorts s' u)
    (ho : r.owner = (s.bridge br).owner) (hi : r.st = .idle) (kept : s.BridgeKept br) (hs : s.BridgeKept x) :
    ((u.setBridge br r).dropOwner br).BridgeKept x := by
  obtain ⟨demand', bridges', chans'⟩ := start.rest
  have demand : (u.setBridge br r).demand = s.demand := only.demand.trans demand'
  have slots : ∀ ch cl, (u.setBridge br r).slot ch cl = s.slot ch cl := State.slot_congr demand
  have owner : ((u.setBridge br r).bridge br).owner = (s.bridge br).owner := by
    rw [State.bridge_setBridge_same, ho]
  unfold State.dropOwner
  by_cases hx : x = br
  · subst hx
    obtain ⟨wish, pending, inhibited, admitted⟩ := start.chan
    rw [← only.chan] at wish pending inhibited admitted
    have idle : ((u.setBridge x r).bridge x).st = .idle := by rw [State.bridge_setBridge_same, hi]
    have slotOf := slot_of_owner owners kept.1
    rw [owner]
    split
    next none =>
      have empty : ∀ cl, s.slot (bridgeChannel x) cl = Option.none := fun cl =>
        (slotOf cl).mpr (by rw [none]; exact nofun)
      have noWish : (s.chan (bridgeChannel x)).wish = false := by
        rw [kept.2.1.2.1, combined_of_empty empty]
      have rests : ((u.setBridge x r).chan (bridgeChannel x)).admitted = false := by
        rw [← Bool.not_eq_true]
        intro ha
        have yes := WishOk.of_admitted (c := s.chan (bridgeChannel x)) (wishes _) (admitted ha)
        rw [noWish] at yes
        exact nomatch yes
      refine ⟨fun cl e he => kept.1 cl e (by rwa [slots] at he), ?_, ?_⟩
      · unfold State.HandedOver
        rw [combined_of_empty fun cl => by rw [slots]; exact empty cl, State.chan_setBridge, wish, pending, inhibited]
        have handed := kept.2.1
        unfold State.HandedOver at handed
        rwa [combined_of_empty empty] at handed
      · rw [idle, rests]; exact ⟨fun k => absurd rfl k, nofun⟩
    next cl hcl =>
      have empty : ∀ y, ((u.setBridge x r).disown x cl).slot (bridgeChannel x) y = Option.none := fun y => by
        change ((u.setBridge x r).setSlot (bridgeChannel x) cl Option.none).slot (bridgeChannel x) y = _
        rw [State.slot_setSlot]
        split
        · rfl
        next ne =>
          rw [slots]
          exact (slotOf y).mpr fun k => ne ⟨rfl, Option.some.inj (k.symm.trans hcl)⟩
      have wants : (((u.setBridge x r).disown x cl).combined (bridgeChannel x)).wants = false := by
        rw [combined_of_empty empty]
      have standing : s.slot (bridgeChannel x) cl ≠ Option.none := fun k => (slotOf cl).mp k hcl
      have wished : (((u.setBridge x r).disown x cl).chan (bridgeChannel x)).wish = true := by
        change (u.chan (bridgeChannel x)).wish = true
        rw [wish, kept.2.1.2.1, combined_of_drive kept.1 ⟨cl, standing⟩]
      have stays : (((u.setBridge x r).disown x cl).bridge x).st = .idle := by
        unfold State.disown
        rw [State.bridge_setBridge_same]
        exact idle
      exact handOver_bridgeKept (fun y e he => by rw [empty] at he; exact nomatch he)
        (fun k => absurd stays k) fun _ => .inr ⟨stays, wants, wished⟩
  · have away : (u.setBridge br r).BridgeKept x := by
      refine bridgeKept_elsewhere (s := s) (fun cl => slots _ cl) ?_ ?_ hs
      · rw [State.chan_setBridge, only.chan]; exact chans' _ fun e => hx (bridgeChannel_inj e)
      · rw [State.bridge_setBridge, if_neg hx, only.bridge]
        unfold State.bridge; rw [bridges']
    split
    · exact away
    next cl _ =>
      refine handOver_other_bridgeKept (bridgeChannel_ne hx)
        (bridgeKept_elsewhere (s := u.setBridge br r) (fun y => slot_setSlot_bridge hx cl y _) rfl ?_ away)
      unfold State.disown
      rw [State.bridge_setBridge, if_neg hx]
      rfl

/-! ### All together -/

theorem Move.bridgeKept {s t : State} (h : Move i s t) (kept : s.Coherent) (br : Bridge) : t.BridgeKept br := by
  obtain ⟨-, owners, wishes, bridges⟩ := id kept
  cases h with
  | edit h => exact h.bridgeKept kept br
  | drive => exact bridgeKept_drive (bridges br)
  | finish hs hp _ ho hi => exact bridgeKept_finish owners wishes hs hp ho hi (bridges _) (bridges br)

theorem Move.coherent {s t : State} (h : Move i s t) (kept : s.Coherent) : t.Coherent := by
  have fines := h.fines
  obtain ⟨adm, owners, wishes, bridges⟩ := kept
  have pair := fines.keeps (I := fun u => u.AdmissionKept ∧ u.WishesKept)
    (fun _ _ k hu => ⟨k.admissionKept hu.1, k.wishesKept hu.1 hu.2⟩) ⟨adm, wishes⟩
  exact ⟨pair.1, fines.keeps (fun _ _ k hu => k.ownersKept hu) owners, pair.2,
    fun br => h.bridgeKept ⟨adm, owners, wishes, bridges⟩ br⟩

theorem Moves.coherent {s t : State} (h : Moves i s t) (kept : s.Coherent) : t.Coherent := by
  induction h with
  | refl => exact kept
  | tail _ last ih => exact last.coherent ih

theorem wishesKept_powerOn (zone : Fin 4) : (State.powerOn zone).WishesKept := fun ch => by
  rw [State.chan_powerOn]; rfl

theorem bridgesKept_powerOn (zone : Fin 4) : (State.powerOn zone).BridgesKept := fun br => by
  refine ⟨fun cl e he => ?_, ?_, ?_⟩
  · rw [slot_powerOn] at he; exact nomatch he
  · unfold State.HandedOver
    rw [combined_of_empty (slot_powerOn zone _), State.chan_powerOn]
    exact ⟨rfl, rfl, rfl⟩
  · have idle : ((State.powerOn zone).bridge br).st = .idle := by cases br <;> rfl
    rw [idle, State.chan_powerOn]
    exact ⟨fun k => absurd rfl k, nofun⟩

theorem coherent_powerOn (zone : Fin 4) : (State.powerOn zone).Coherent :=
  ⟨admissionKept_powerOn zone, ownersKept_powerOn zone, wishesKept_powerOn zone, bridgesKept_powerOn zone⟩

theorem bridgeKept_tick {s : State} {br : Bridge} (h : s.BridgeKept br) : s.tick.BridgeKept br := by
  refine bridgeKept_congr (fun cl e he => ?_) (fun cl => ?_) ?_ ?_ h
  · rcases s.slot_tick (bridgeChannel br) cl with k | k <;> rw [k] at he
    · exact h.1 cl e he
    · obtain ⟨e₀, h₀, rfl⟩ := Option.map_eq_some_iff.mp he
      rw [Entry.tick_isDrive]
      exact h.1 cl e₀ h₀
  · rcases s.slot_tick (bridgeChannel br) cl with k | k <;> rw [k]
    exact Option.map_eq_none_iff
  · rcases s.chan_tick (bridgeChannel br) with k | k <;> rw [k] <;> exact ⟨rfl, rfl, rfl, rfl⟩
  · rcases s.bridge_tick br with k | k <;> rw [k]
    exact Iff.rfl

theorem coherent_tick {s : State} (h : s.Coherent) : s.tick.Coherent := by
  obtain ⟨adm, owners, wishes, bridges⟩ := h
  refine ⟨admissionKept_kept.tick s adm, ownersKept_kept.tick s owners, (wishesKept_iff _).mpr fun ch => ?_,
    fun br => bridgeKept_tick (bridges br)⟩
  rcases s.chan_tick ch with k | k <;> rw [k]
  · exact wishes ch
  · exact WishOk.of_same (c := s.chan ch) rfl rfl (wishes ch)

/-- Settles O59: owners and their entries change together; each move keeps every bridge with its channel. -/
theorem stepKeepsCoherence : Obligations.StepKeepsCoherence := by
  unfold Obligations.StepKeepsCoherence
  refine ⟨fun s t hstep => ownersKept_kept.step hstep, fun s t hstep kept => ?_⟩
  rcases step_cases hstep with ⟨zone, -, rfl⟩ | ⟨-, rfl⟩ | ⟨-, rfl⟩ | ⟨c, -, moves⟩
  · exact coherent_powerOn zone
  · exact kept
  · exact coherent_tick kept
  · exact moves.coherent kept

end Sys2Proof.Machine
end

section
/-!
PROOF. The legs of a bridge (R115, R116): every move lets them stay or fall, and the commands that switch legs on
find them off.
-/
namespace Sys2Proof.Machine

variable {i : Instr}

/-! ### Legs through a move -/

theorem LegsFall.refl (br : Bridge) (s : State) : LegsFall br s s := ⟨.inl rfl, id⟩

theorem LegsFall.trans {br : Bridge} {s t u : State} (h : LegsFall br s t) (k : LegsFall br t u) :
    LegsFall br s u := by
  refine ⟨?_, fun d => k.2 (h.2 d)⟩
  rcases h.1 with e | off | dropped
  · rcases k.1 with e' | off' | dropped'
    · exact .inl (e'.trans e)
    · exact .inr (.inl (e ▸ off'))
    · exact .inr (.inr dropped')
  · exact .inr (.inl off)
  · exact .inr (.inr (k.2 dropped))

theorem LegsFall.legs {br : Bridge} {s t : State} (h : LegsFall br s t) :
    t.legs br = s.legs br ∨ s.legs br = (.off, .off) ∨ t.legs br = (.off, .off) :=
  h.1.imp_right (.imp_right BridgeRecord.Dropped.legs)

theorem idle_congr {s t : State} {br : Bridge}
    (h : (t.chan (bridgeChannel br)).profile.bridge = (s.chan (bridgeChannel br)).profile.bridge) :
    (t.bridgeProfile br).idle = (s.bridgeProfile br).idle := by
  unfold State.bridgeProfile Profile.bridgeFields
  rw [h]

theorem legsFall_keep {s t : State} {br : Bridge} (hp : t.powered = s.powered) (hb : t.bridge br = s.bridge br)
    (profile : (t.chan (bridgeChannel br)).profile.bridge = (s.chan (bridgeChannel br)).profile.bridge) :
    LegsFall br s t :=
  legsFall_of_same hp (by rw [hb]) (by rw [hb]) (by rw [hb]) (idle_congr profile)

theorem rest_enterRamping (s : State) (br : Bridge) (n : Nat) :
    ((s.enterRamping (bridgeChannel br) n).bridge br).rest = s.restAfterLegsOff br := by
  unfold State.enterRamping
  rw [bridgeOf_bridgeChannel]
  unfold State.startBridge
  dsimp only
  rw [State.bridge_setBridge_same]
  refine restAfterLegsOff_congr (State.bridge_setChan _ _ _ _) (idle_congr ?_)
  rw [State.chan_setChan_same, Channel.enterRamping_profile]

theorem rest_admitChannel (s : State) (br : Bridge) :
    ((s.admitChannel (bridgeChannel br)).bridge br).rest = s.restAfterLegsOff br := by
  unfold State.admitChannel
  dsimp only
  rw [rest_enterRamping]
  refine restAfterLegsOff_congr ?_ (idle_congr ?_)
  · unfold State.bridge; rw [bridges_countAdmission]; rfl
  · rw [chan_countAdmission]; rfl

theorem powered_admitChannel (s : State) (ch : Ch) : (s.admitChannel ch).powered = s.powered :=
  (only_admit s ch).toBlocks.powered

theorem legsFall_admitChannel (s : State) (ch : Ch) (br : Bridge) : LegsFall br s (s.admitChannel ch) := by
  by_cases e : bridgeChannel br = ch
  · subst e
    refine legsFall_of_off ?_ ?_ (rest_admitChannel s br) <;> rw [bridge_admitChannel_same] <;> exact nofun
  · refine legsFall_keep (powered_admitChannel s ch) (bridge_admitChannel_other fun k => e k.symm) ?_
    rw [othersKept_admitChannel s ch _ e]

theorem legsFall_setChan {s : State} {ch : Ch} {c : Channel} (h : c.profile = (s.chan ch).profile)
    (br : Bridge) : LegsFall br s (s.setChan ch c) := by
  refine legsFall_keep rfl rfl ?_
  rw [State.chan_setChan]
  split
  next e => rw [e, h]
  next => rfl

theorem legsFall_leaveTo (s : State) (ch : Ch) (dest : ChState) (br : Bridge) :
    LegsFall br s (s.leaveTo ch dest) :=
  legsFall_keep (only_leaveTo s ch dest).toBlocks.powered (bridge_leaveTo s ch dest br)
    (by rw [(handed_leaveTo s ch dest (bridgeChannel br)).1.1])

theorem rest_clearDemands (s : State) (br : Bridge) :
    (s.clearDemands.bridge br).rest = s.restAfterLegsOff br := by cases br <;> rfl

theorem Edit.legsFall {s t : State} {br : Bridge} (h : Edit i s t) (calm : ¬ SwitchesOn i br) : LegsFall br s t := by
  cases h with
  | other h => rw [h]; exact legsFall_keep rfl rfl rfl
  | ports h => exact legsFall_keep h.toBlocks.powered (h.bridge br) (by rw [h.chan])
  | unit => exact legsFall_keep rfl rfl rfl
  | budgets => exact legsFall_keep rfl rfl rfl
  | record => exact legsFall_setChan (by rfl) br
  | sample => exact legsFall_setChan (by rfl) br
  | marks => exact legsFall_setChan (by rfl) br
  | intervals =>
    refine legsFall_keep rfl rfl ?_
    have woken : ({ s with chans := mapChannels Channel.wake s.chans } : State).chan (bridgeChannel br) =
      (s.chan (bridgeChannel br)).wake := mapChannels_get _ _ _
    rw [woken]; rfl
  | period => exact legsFall_setChan (by rfl) br
  | cleared => exact legsFall_setChan (by rfl) br
  | @profile ch p d n _ _ _ hbr =>
    refine legsFall_keep rfl rfl ?_
    rw [State.chan_setChan]
    split
    next e => rw [e]; exact (hbr br (e ▸ bridgeOf_bridgeChannel br)).resolve_left calm
    next => rfl
  | @leave ch c dest hc => exact (legsFall_setChan hc.samePlace.2 br).trans (legsFall_leaveTo _ ch dest br)
  | @place ch c hc =>
    refine (legsFall_setChan hc.samePlace.2 br).trans (legsFall_keep rfl rfl ?_)
    rw [State.chan_place]
    split
    next e => rw [e]
    next => rfl
  | @bypass ch c hc => exact (legsFall_setChan hc.samePlace.2 br).trans (legsFall_admitChannel _ ch br)
  | @head f e rest =>
    have popped : LegsFall br s (s.setUnit f { s.unit f with queue := rest }) := legsFall_keep rfl rfl rfl
    exact popped.trans (legsFall_admitChannel _ e.ch br)
  | @trip ch =>
    have released : LegsFall br s (s.releaseClaims ch) := legsFall_keep rfl rfl rfl
    exact released.trans (legsFall_setChan (by rfl) br)
  | @window ch =>
    have on : LegsFall br s (s.setChan ch { s.chan ch with st := .on, window := none, goodRun := some 0 }) :=
      legsFall_setChan (by rfl) br
    exact on.trans (legsFall_keep rfl rfl rfl)
  | put => exact legsFall_keep rfl rfl rfl
  | amend => exact legsFall_keep rfl rfl rfl
  | mark => exact legsFall_keep rfl rfl rfl
  | @bridge br' r _ _ hl =>
    by_cases e : br = br'
    · subst e; exact hl.resolve_left calm
    · exact legsFall_keep rfl (by rw [State.bridge_setBridge, if_neg e]) rfl
  | clearDemands =>
    have idle : (s.clearDemands.bridge br).st = .idle := by cases br <;> rfl
    exact legsFall_of_off (by rw [idle]; exact nofun) (by rw [idle]; exact nofun) (rest_clearDemands s br)

theorem legsFall_handOver (s : State) (ch : Ch) {br : Bridge} (calm : ¬ SwitchesOn i br) :
    LegsFall br s (s.handOver ch) := by
  rcases handOver_edit (i := i) s ch with e | h
  · rw [e]; exact .refl br s
  · exact h.legsFall calm

theorem legsFall_owner (s : State) (br x : Bridge) (owner : Option Client) :
    LegsFall x s (s.setBridge br { s.bridge br with owner := owner }) := by
  by_cases e : x = br
  · subst e
    refine legsFall_of_same rfl ?_ ?_ ?_ rfl <;> rw [State.bridge_setBridge_same]
  · exact legsFall_keep rfl (by rw [State.bridge_setBridge, if_neg e]) rfl

theorem legsFall_setSlot (s : State) (ch : Ch) (cl : Client) (o : Option Entry) (br : Bridge) :
    LegsFall br s (s.setSlot ch cl o) := legsFall_keep rfl rfl rfl

theorem legsFall_elsewhere {s : State} {br x : Bridge} (hx : x ≠ br) (r : BridgeRecord) :
    LegsFall x s (s.setBridge br r) :=
  legsFall_keep rfl (by rw [State.bridge_setBridge, if_neg hx]) rfl

theorem OverFrom.profile {br : Bridge} {s s' : State} (h : OverFrom br s s') (ch : Ch) :
    (s'.chan ch).profile = (s.chan ch).profile := by
  rcases h with rfl | ⟨-, cause, rms, vavg, rfl⟩
  · rfl
  · unfold State.tripped
    rw [State.chan_setChan]
    split
    next e => rw [e]; rfl
    next => rfl

theorem OverFrom.powered {br : Bridge} {s s' : State} (h : OverFrom br s s') : s'.powered = s.powered := by
  rcases h with rfl | ⟨-, cause, rms, vavg, rfl⟩ <;> rfl

theorem Move.legsFall {s t : State} {br : Bridge} (h : Move i s t) (calm : ¬ SwitchesOn i br)
    (kept : s.Coherent) : LegsFall br s t := by
  cases h with
  | edit h => exact h.legsFall calm
  | @drive x cl dir n =>
    obtain ⟨r, taken, -, -, falls⟩ := driveTaken_eq (s.own x cl dir n) x dir n
    rw [taken]
    have owned : LegsFall br s (s.own x cl dir n) :=
      (legsFall_setSlot s _ cl _ br).trans (legsFall_owner _ x br (some cl))
    refine (owned.trans ?_).trans (legsFall_handOver _ _ calm)
    by_cases e : br = x
    · subst e; exact falls
    · exact legsFall_elsewhere e r
  | @finish s' u x r hs hp _ _ _ hl =>
    have idle : LegsFall br s (u.setBridge x r) := by
      by_cases e : br = x
      · subst e; exact (hl (kept.2.2.2 br)).resolve_left calm
      · refine (legsFall_keep (hp.toBlocks.powered.trans hs.powered) ?_ ?_).trans (legsFall_elsewhere e r)
        · rw [hp.bridge]; unfold State.bridge; rw [hs.rest.2.1]
        · rw [hp.chan, hs.profile]
    unfold State.dropOwner
    split
    · exact idle
    next cl _ =>
      have gone : LegsFall br (u.setBridge x r) ((u.setBridge x r).disown x cl) :=
        (legsFall_setSlot _ _ cl none br).trans (legsFall_owner _ x br none)
      exact (idle.trans gone).trans (legsFall_handOver _ _ calm)

theorem Moves.legsFall {s t : State} {br : Bridge} (h : Moves i s t) (calm : ¬ SwitchesOn i br)
    (kept : s.Coherent) : LegsFall br s t := by
  have both : t.Coherent ∧ LegsFall br s t := by
    induction h with
    | refl => exact ⟨kept, .refl br s⟩
    | tail _ last ih => exact ⟨last.coherent ih.1, ih.2.trans (last.legsFall calm ih.1)⟩
  exact both.2

/-! ### The commands that switch legs on -/

theorem legs_settle (s t : State) (br : Bridge) : (State.settle s t).legs br = t.legs br := by
  refine legs_congr (settle_powered s t) ?_ ?_ ?_ (idle_congr ?_)
  · unfold State.bridge; rw [settle_bridges]
  · unfold State.bridge; rw [settle_bridges]
  · unfold State.bridge; rw [settle_bridges]
  · unfold State.chan; rw [settle_chans]

/-- An expiry: nothing without power, else the end of a command alone, or the event and that end. -/
theorem expiry_cases (s : State) (due : State → Bool) (f : State → State) :
    s.run (whenActive (whenDue due f)) = s ∨ s.run (whenActive (whenDue due f)) = State.settle s s ∨
      (due s = true ∧ s.run (whenActive (whenDue due f)) = State.settle s (f s)) := by
  unfold State.run whenActive whenDue
  split
  · split
    · split
      next h => exact .inr (.inr ⟨h, rfl⟩)
      next => exact .inr (.inl rfl)
    · exact .inr (.inl rfl)
  · exact .inl rfl

/-- The legs have not gone from one conducting stand to another. -/
def LegsOk (br : Bridge) (s t : State) : Prop :=
  t.legs br = s.legs br ∨ s.legs br = (.off, .off) ∨ t.legs br = (.off, .off)

theorem legsOk_expiry {s : State} {due : State → Bool} {f : State → State} {br : Bridge}
    (h : due s = true → LegsOk br s (f s)) : LegsOk br s (s.run (whenActive (whenDue due f))) := by
  rcases expiry_cases s due f with e | e | ⟨hdue, e⟩ <;> rw [e]
  · exact .inl rfl
  · exact .inl (legs_settle s s br)
  · unfold LegsOk
    rw [legs_settle]
    exact h hdue

theorem legsOk_stage {s : State} {stage : DeadStage} {f : State → State} {br : Bridge} :
    LegsOk br s (s.run (whenActive (whenDue (State.stageDue br (.dead stage)) f))) :=
  legsOk_expiry fun hdue => .inr (.inl (legs_dead (stageDue_st hdue)))

theorem legsOk_expireRest {s : State} {br : Bridge} (h : s.restDue br = true) :
    LegsOk br s (State.expireRest br s) := by
  have runs : (s.bridge br).rest ≠ none := fun e => by
    unfold State.restDue at h
    rw [e] at h
    exact nomatch h
  have record : (State.expireRest br s).bridge br = { s.bridge br with rest := none } :=
    State.bridge_setBridge_same _ _ _
  cases st : (s.bridge br).st with
  | idle => exact .inr (.inl (BridgeRecord.Dropped.legs ⟨by rw [st]; exact nofun, by rw [st]; exact nofun, runs⟩))
  | dead stage => exact .inr (.inl (legs_dead st))
  | drive =>
    left
    unfold State.legs
    rw [record, st]
    rfl
  | brake =>
    left
    unfold State.legs
    rw [record, st]
    rfl

theorem legs_of_idle {s : State} {br : Bridge} (h : (s.bridge br).st = .idle) :
    s.legs br = (.off, .off) ∨ s.legs br = (.low, .low) := by
  unfold State.legs
  rw [h]
  split
  · exact .inl rfl
  · dsimp only
    split
    · exact .inr rfl
    · exact .inl rfl

theorem legsOk_of_idle {s t : State} {br : Bridge} (hs : (s.bridge br).st = .idle) (ht : (t.bridge br).st = .idle) :
    LegsOk br s t := by
  rcases legs_of_idle hs with e | e
  · exact .inr (.inl e)
  · rcases legs_of_idle ht with e' | e'
    · exact .inr (.inr e')
    · exact .inl (e'.trans e.symm)

/-- A bridge and what its legs are read from stay as they are. -/
def SameBridge (br : Bridge) (s t : State) : Prop :=
  t.powered = s.powered ∧ t.bridge br = s.bridge br ∧
    SamePlace (s.chan (bridgeChannel br)) (t.chan (bridgeChannel br))

theorem SameBridge.trans {br : Bridge} {s t u : State} (h : SameBridge br s t) (k : SameBridge br t u) :
    SameBridge br s u := ⟨k.1.trans h.1, k.2.1.trans h.2.1, h.2.2.trans k.2.2⟩

theorem SameBridge.legs {br : Bridge} {s t : State} (h : SameBridge br s t) : t.legs br = s.legs br :=
  legs_congr h.1 (by rw [h.2.1]) (by rw [h.2.1]) (by rw [h.2.1]) (idle_congr (by rw [h.2.2.2]))

theorem OnlyPorts.sameBridge {s t : State} (h : OnlyPorts s t) (br : Bridge) : SameBridge br s t :=
  ⟨h.toBlocks.powered, h.bridge br, by rw [h.chan]; exact .refl _⟩

theorem sameBridge_wakePort (s : State) (p : Port) (br : Bridge) : SameBridge br s (s.wakePort p) := by
  unfold State.wakePort
  split
  · exact (only_restartStatus s p).sameBridge br
  · exact (OnlyPorts.refl s).sameBridge br

theorem sameBridge_awake (s : State) (br : Bridge) : SameBridge br s s.awake := by
  unfold State.awake
  split
  · exact (OnlyPorts.refl s).sameBridge br
  · unfold State.wakeUp
    refine SameBridge.trans ?_ ((sameBridge_wakePort _ .a br).trans (sameBridge_wakePort _ .b br))
    refine ⟨rfl, rfl, ?_⟩
    have woken : (mapChannels Channel.wake s.chans)[bridgeChannel br] = (s.chan (bridgeChannel br)).wake :=
      mapChannels_get _ _ _
    unfold State.chan at woken ⊢
    dsimp only
    rw [woken]
    exact ⟨rfl, rfl⟩

theorem sameBridge_refresh (s : State) (cl : Client) (p : Port) (br : Bridge) :
    SameBridge br s (s.refresh cl p) := by
  unfold State.refresh
  dsimp only
  split
  · exact SameBridge.trans (t := s.setClient cl _) ⟨rfl, rfl, .refl _⟩ ((only_offerEvent _ _).sameBridge br)
  · exact ⟨rfl, rfl, .refl _⟩

theorem st_acceptProfileF (s : State) (ch : Ch) (br x : Bridge) (stall : Half) (stallt braket deadt idle : Byte) :
    ((s.acceptProfileF ch br stall stallt braket deadt idle).bridge x).st = (s.bridge x).st := by
  unfold State.acceptProfileF
  dsimp only
  split
  · rw [State.bridge_setBridge]
    split
    next e => rw [e]; rfl
    next => rfl
  · rfl

theorem legsOk_profileF {s : State} {br : Bridge} (kept : s.BridgeKept br) (src : Source) (b : Byte) (stall : Half)
    (stallt braket deadt idle : Byte) (names : NamesChannel b (bridgeChannel br)) : LegsOk br s
      (s.run (State.request src 0x35 b (judgeProfileF src.client b stall stallt braket deadt idle))) := by
  have judged : ∀ t, SameBridge br s t →
      LegsOk br s (State.judge src 0x35 b (judgeProfileF src.client b stall stallt braket deadt idle) t) := by
    intro t same
    have judgement : judgeProfileF src.client b stall stallt braket deadt idle t = checkProfile src.client
        (bridgeChannel br) t (t.acceptProfileF (bridgeChannel br) br stall stallt braket deadt idle) := by
      unfold judgeProfileF onChannel
      rw [channelOfByte_eq_some.mpr names]
      dsimp only
      rw [bridgeOf_bridgeChannel]
    unfold State.judge
    rw [judgement]
    unfold checkProfile check
    by_cases off : (t.chan (bridgeChannel br)).st = .off
    · have before : (s.bridge br).st = .idle := by
        by_contra k
        have ha := kept.2.2.mp k
        rw [Channel.admitted_iff, ← same.2.2.1, off] at ha
        exact ha.elim nofun nofun
      refine legsOk_of_idle before ?_
      have st := (st_acceptProfileF t (bridgeChannel br) br br stall stallt braket deadt idle).trans
        ((congrArg BridgeRecord.st same.2.1).trans before)
      rw [if_pos (decide_eq_true off)]
      split
      next v hv =>
        split at hv
        · cases hv; exact st
        · exact nomatch hv
      next => exact (congrArg BridgeRecord.st same.2.1).trans before
    · split
      next v hv =>
        rw [decide_eq_false off] at hv
        split at hv <;> exact nomatch hv
      next => exact .inl (same.trans ((only_offerReply _ _ _ _ _ _).sameBridge br)).legs
  unfold State.run
  split
  · unfold LegsOk
    rw [legs_settle]
    unfold State.request State.takeFrame
    split
    · exact .inl ((only_seeActivity s _).sameBridge br).legs
    · split
      · exact .inl rfl
      · dsimp only
        split
        · exact judged _ ((sameBridge_awake s br).trans (sameBridge_refresh _ _ _ br))
        · exact .inl (sameBridge_awake s br).legs
  · exact .inl rfl

theorem step_head {s : State} {c : Instr} (h : s.pending.head? = some c) :
    step s = exec c { s with pending := s.pending.tail } := by
  unfold step
  split
  next x rest e => rw [e] at h ⊢; cases h; rfl
  next e => rw [e] at h; exact nomatch h

theorem legsOk_switching {s t : State} {c : Instr} {br : Bridge} (h : exec c s = .next t) (kept : s.BridgeKept br)
    (switches : SwitchesOn c br) : LegsOk br s t := by
  rcases switches with rfl | rfl | rfl | rfl | ⟨src, b, stall, stallt, braket, deadt, idle, rfl, names⟩ <;> cases h
  · exact legsOk_stage
  · exact legsOk_stage
  · exact legsOk_stage
  · exact legsOk_expiry legsOk_expireRest
  · exact legsOk_profileF kept src b stall stallt braket deadt idle names

theorem legs_powerOn (zone : Fin 4) (br : Bridge) : (State.powerOn zone).legs br = (.off, .off) := by
  cases br <;> rfl

theorem legs_tick (s : State) (br : Bridge) : s.tick.legs br = s.legs br := by
  have profile := (samePlace_tick s (bridgeChannel br)).2
  refine legs_congr s.tick_powered ?_ ?_ ?_ (idle_congr (by rw [profile])) <;>
    rcases s.bridge_tick br with e | e <;> rw [e]
  · rfl
  · rfl
  · change countUp _ _ = none ↔ _
    rw [countUp_eq_map, Option.map_eq_none_iff]

/-- Settles O60: legs fall in every command but the five that switch legs on, and those find them off, leave
them as they are, or act on an idle bridge. -/
theorem legsChangeOnlyThroughOff : Obligations.LegsChangeOnlyThroughOff := by
  unfold Obligations.LegsChangeOnlyThroughOff
  intro s t br hstep kept
  rcases step_cases hstep with ⟨zone, -, rfl⟩ | ⟨-, rfl⟩ | ⟨-, rfl⟩ | ⟨c, head, moves⟩
  · exact .inr (.inr (legs_powerOn zone br))
  · exact .inr (.inr rfl)
  · exact .inl (legs_tick s br)
  · by_cases switches : SwitchesOn c br
    · rw [step_head head] at hstep
      exact legsOk_switching (s := { s with pending := s.pending.tail }) hstep (kept.2.2.2 br) switches
    · exact (moves.legsFall switches kept).legs

end Sys2Proof.Machine
end

section
/-!
PROOF. What the commands leave of the part itself: every command keeps the queue of commands (95), no request
and no event puts the part to SLEEP but by the rest conditions (R161), and in SLEEP only a wake cause acts.
-/
namespace Sys2Proof.Machine

variable {i : Instr}

/-! ### Requests touch the blocks alone -/

/-- What a verdict does to a state: a request accepted touches the blocks' records alone. -/
def VerdictBlocks (s : State) (v : Verdict) : Prop :=
  match v with
  | .accept t => OnlyBlocks s t
  | .refuse _ => True

theorem blocks_check {s : State} {ok : Bool} {code : RefusalCode} {v : Verdict} (h : VerdictBlocks s v) :
    VerdictBlocks s (check ok code v) := by
  unfold check
  split
  · exact h
  · trivial

theorem blocks_onChannel {s : State} {b : Byte} {k : Ch → Verdict} (h : ∀ ch, VerdictBlocks s (k ch)) :
    VerdictBlocks s (onChannel b k) := by
  unfold onChannel
  split
  · exact h _
  · trivial

theorem blocks_setSteady (cl : Client) (b : Byte) (d : Half) (s : State) :
    VerdictBlocks s (judgeSetSteady cl b d s) := by
  refine blocks_onChannel fun ch => blocks_check (blocks_check ?_)
  change OnlyBlocks s (if _ then _ else _)
  split
  · exact (only_releaseEntry s cl ch).toBlocks
  · exact (only_recordEntry s ch cl _).toBlocks

theorem blocks_setTimed (cl : Client) (b : Byte) (d n : Half) (s : State) :
    VerdictBlocks s (judgeSetTimed cl b d n s) :=
  blocks_onChannel fun ch => blocks_check (blocks_check (only_recordEntry s ch cl _).toBlocks)

theorem blocks_setFlash (cl : Client) (b : Byte) (d : Half) (g n : Byte) (s : State) :
    VerdictBlocks s (judgeSetFlash cl b d g n s) := by
  refine blocks_onChannel fun ch => blocks_check ?_
  cases sideOfByte g with
  | none => trivial
  | some x => exact blocks_check (only_recordEntry s ch cl _).toBlocks

theorem blocks_setInhibit (cl : Client) (b : Byte) (s : State) : VerdictBlocks s (judgeSetInhibit cl b s) :=
  blocks_onChannel fun ch => blocks_check (only_recordEntry s ch cl _).toBlocks

theorem only_acceptDrive (s : State) (br : Bridge) (cl : Client) (dir : Direction) (n : Nat) :
    OnlyDemand s (s.acceptDrive br cl dir n) :=
  (OnlyDemand.trans (only_setSlot s (bridgeChannel br) cl (some (.drive dir n false)))
    (only_setBridge _ br _).toDemand).trans ((only_driveTaken _ br dir n).trans (only_recomputed _ _)).toDemand

theorem blocks_drive (cl : Client) (b d : Byte) (n : Half) (s : State) :
    VerdictBlocks s (judgeDrive cl b d n s) := by
  refine blocks_onChannel fun ch => ?_
  cases bridgeOf ch with
  | none => trivial
  | some br => exact blocks_check (blocks_check (only_acceptDrive s br cl _ _).toBlocks)

theorem blocks_release (cl : Client) (b : Byte) (s : State) : VerdictBlocks s (judgeRelease cl b s) := by
  unfold judgeRelease
  split
  · exact (only_overChannels OnlyDemand.refl OnlyDemand.trans (fun ch t => only_releaseEntry t cl ch) s _).toBlocks
  · exact blocks_onChannel fun ch => (only_releaseEntry s cl ch).toBlocks

theorem blocks_clear (cl : Client) (b : Byte) (s : State) : VerdictBlocks s (judgeClear cl b s) :=
  blocks_onChannel fun ch => blocks_check (only_setChan s ch _).toBlocks

theorem blocks_hold (cl : Client) (b level time : Byte) (s : State) :
    VerdictBlocks s (judgeHold cl b level time s) := by
  unfold judgeHold
  cases sideOfByte b with
  | none => trivial
  | some f => exact blocks_check (blocks_check ((only_setUnit s f _).trans (only_examine _ f)).toBlocks)

theorem blocks_unhold (cl : Client) (b : Byte) (s : State) : VerdictBlocks s (judgeUnhold cl b s) := by
  unfold judgeUnhold
  cases sideOfByte b with
  | none => trivial
  | some f => exact blocks_check (blocks_check (only_endHold s f _ _).toBlocks)

theorem blocks_flashCfg (cl : Client) (b : Byte) (period share : Half) (s : State) :
    VerdictBlocks s (judgeFlashCfg cl b period share s) := by
  unfold judgeFlashCfg
  cases sideOfByte b with
  | none => trivial
  | some g => exact blocks_check (only_setGroup s g _).toBlocks

theorem blocks_checkProfile {cl : Client} {ch : Ch} {s t : State} (h : OnlyBlocks s t) :
    VerdictBlocks s (checkProfile cl ch s t) := blocks_check (blocks_check h)

theorem only_writeProfile (s : State) (ch : Ch) (f : Profile → Profile) : OnlyAdmission s (s.writeProfile ch f) :=
  rfl

theorem only_removeInhibits (s : State) (ch : Ch) : OnlyDemand s (s.removeInhibits ch) :=
  foldl_within OnlyDemand.refl OnlyDemand.trans (fun t cl => by
    split
    · exact only_setSlot t ch cl none
    · exact .refl t) _ _

theorem only_acceptProfileA (s : State) (ch : Ch) (cls tau : BitVec 4) (rated short : Half) :
    OnlyDemand s (s.acceptProfileA ch cls tau rated short) := by
  unfold State.acceptProfileA
  dsimp only
  split
  · exact (only_writeProfile s ch _).toDemand.trans ((only_removeInhibits _ ch).trans (only_recomputed _ ch).toDemand)
  · exact (only_writeProfile s ch _).toDemand

theorem only_acceptProfileF (s : State) (ch : Ch) (br : Bridge) (stall : Half) (stallt braket deadt idle : Byte) :
    OnlyAdmission s (s.acceptProfileF ch br stall stallt braket deadt idle) := by
  unfold State.acceptProfileF
  dsimp only
  split
  · exact (only_writeProfile s ch _).trans (only_setBridge _ br _)
  · exact only_writeProfile s ch _

theorem blocks_profileA (cl : Client) (b : Byte) (cls tau : BitVec 4) (rated short : Half) (s : State) :
    VerdictBlocks s (judgeProfileA cl b cls tau rated short s) :=
  blocks_onChannel fun ch => blocks_checkProfile (only_acceptProfileA s ch _ _ _ _).toBlocks

theorem blocks_profileB (cl : Client) (b : Byte) (ishort window : Half) (retries thr : Byte) (s : State) :
    VerdictBlocks s (judgeProfileB cl b ishort window retries thr s) :=
  blocks_onChannel fun ch =>
    blocks_checkProfile ((only_writeProfile s ch _).trans (only_setChan _ ch _)).toBlocks

theorem blocks_profileC (cl : Client) (b : Byte) (iclaim rclaim : Half) (silence : Byte) (s : State) :
    VerdictBlocks s (judgeProfileC cl b iclaim rclaim silence s) :=
  blocks_onChannel fun ch => blocks_checkProfile (only_writeProfile s ch _).toBlocks

theorem blocks_profileD (cl : Client) (b : Byte) (period : BitVec 24) (vt : Half) (s : State) :
    VerdictBlocks s (judgeProfileD cl b period vt s) :=
  blocks_onChannel fun ch => blocks_checkProfile (only_writeProfile s ch _).toBlocks

theorem blocks_profileE (cl : Client) (b rights input mode : Byte) (duty : Half) (s : State) :
    VerdictBlocks s (judgeProfileE cl b rights input mode duty s) :=
  blocks_onChannel fun ch => blocks_checkProfile (only_writeProfile s ch _).toBlocks

theorem blocks_profileF (cl : Client) (b : Byte) (stall : Half) (stallt braket deadt idle : Byte) (s : State) :
    VerdictBlocks s (judgeProfileF cl b stall stallt braket deadt idle s) := by
  refine blocks_onChannel fun ch => ?_
  cases bridgeOf ch with
  | none => trivial
  | some br => exact blocks_checkProfile (only_acceptProfileF s ch br _ _ _ _ _).toBlocks

theorem only_acceptFeedCfg (s : State) (f : Feed) (peak cont vshed : Half) :
    OnlyAdmission s (s.acceptFeedCfg f peak cont vshed) :=
  ((only_setUnit s f _).trans
    (only_overChannels OnlyAdmission.refl OnlyAdmission.trans (fun ch t => only_setChan t ch _) _ _)).trans
      (only_examine _ f)

theorem blocks_feedCfg (cl : Client) (b : Byte) (peak cont vshed : Half) (s : State) :
    VerdictBlocks s (judgeFeedCfg cl b peak cont vshed s) := by
  unfold judgeFeedCfg
  cases sideOfByte b with
  | none => trivial
  | some f => exact blocks_check (blocks_check (only_acceptFeedCfg s f _ _ _).toBlocks)

theorem only_acceptClientCfg (s : State) (who : Client) (time : Half) :
    OnlyBlocks s (s.acceptClientCfg who time) := by
  unfold State.acceptClientCfg
  dsimp only
  split
  · exact (only_setClient s who _).trans (only_expireSilence _ who)
  · exact only_setClient s who _

theorem blocks_clientCfg (cl : Client) (b : Byte) (time : Half) (s : State) :
    VerdictBlocks s (judgeClientCfg cl b time s) := by
  unfold judgeClientCfg
  cases clientOfByte b with
  | none => trivial
  | some who => exact blocks_check (only_acceptClientCfg s who _)

theorem only_acceptStatusCfg (s : State) (p : Port) (time : Half) : OnlyPorts s (s.acceptStatusCfg p time) := by
  unfold State.acceptStatusCfg
  dsimp only
  split
  · exact (only_setPort s p _).trans (only_restartStatus _ p)
  · exact only_setPort s p _

theorem blocks_statusCfg (cl : Client) (b : Byte) (time : Half) (s : State) :
    VerdictBlocks s (judgeStatusCfg cl b time s) := by
  unfold judgeStatusCfg
  cases sideOfByte b with
  | none => trivial
  | some p => exact blocks_check (only_acceptStatusCfg s p _).toBlocks

theorem blocks_read (p : Port) (b : Byte) (s : State) : VerdictBlocks s (judgeRead p b s) :=
  blocks_onChannel fun _ => blocks_check ((only_setPort s p _).trans (only_checkRead _ p)).toBlocks

theorem only_replaceInput (s : State) (w : WiredInput) : OnlyDemand s (s.replaceInput w) := by
  unfold State.replaceInput
  split
  · exact only_activateInput s w
  · exact .refl s

theorem only_softReset (s : State) (p : Port) : OnlyDemand s (s.softReset p) :=
  (((OnlyDemand.trans (show OnlyDemand s s.clearDemands from rfl) (only_offerEvent _ _).toDemand).trans
    (only_replaceInput _ .brake)).trans (only_replaceInput _ .hazard)).trans (only_replaceInput _ .reverse)

theorem blocks_reset (src : Source) (s : State) : VerdictBlocks s (judgeReset src s) :=
  blocks_check (only_softReset s src.port).toBlocks

/-! ### Commands and SLEEP -/

/-- With this effect a part that sleeps afterwards sleeps at rest, its quiet timer stopped. -/
def KeepsSleep (f : State → State) : Prop :=
  ∀ s, s.SleepsAtRest → (f s).part = .sleep →
    (f s).quiet = none ∧ (∀ p, (f s).level p = false) ∧ ∀ ch, ((f s).chan ch).atRest = true

theorem level_of_restIn {s : State} (h : s.RestHanded) (asleep : s.restIn = ⟨false, false, false, false⟩)
    (p : Pin) : s.level p = false := by
  rw [h.2] at asleep
  injection asleep with brake hazard reverse key
  cases p <;> assumption

theorem State.SleepsAtRest.asleep {s : State} (h : s.SleepsAtRest) (hp : s.part = .sleep) :
    s.quiet = none ∧ (∀ p, s.level p = false) ∧ ∀ ch, (s.chan ch).atRest = true :=
  ⟨(h.2 hp).1, level_of_restIn h.1 (h.2 hp).2.1, (h.2 hp).2.2⟩

/-- An effect that leaves a sleeping part's quiet timer, levels and channels as they are. -/
theorem keepsSleep_of_same {f : State → State} (h : ∀ s, (f s).part = .sleep → s.part = .sleep ∧
    (f s).quiet = s.quiet ∧ (f s).pins = s.pins ∧ (f s).chans = s.chans) : KeepsSleep f := fun s hs hp => by
  obtain ⟨asleep, quiet, pins, chans⟩ := h s hp
  have level : ∀ p, (f s).level p = s.level p := fun p => by unfold State.level; rw [pins]
  have chan : ∀ ch, (f s).chan ch = s.chan ch := fun ch => by unfold State.chan; rw [chans]
  obtain ⟨quiet₀, levels, rests⟩ := hs.asleep asleep
  exact ⟨quiet.trans quiet₀, fun p => (level p).trans (levels p), fun ch => by rw [chan]; exact rests ch⟩

theorem keepsSleep_active {f : State → State} (h : ∀ s, OnlyBlocks s (f s)) : KeepsSleep (whenActive f) :=
  keepsSleep_of_same fun s hp => by
    unfold whenActive at hp ⊢
    split at hp
    next active => rw [(h s).part, active] at hp; exact nomatch hp
    next asleep => rw [if_neg asleep]; exact ⟨hp, rfl, rfl, rfl⟩

theorem only_whenDue {due : State → Bool} {f : State → State} (h : ∀ s, OnlyBlocks s (f s)) (s : State) :
    OnlyBlocks s (whenDue due f s) := by
  unfold whenDue
  split
  · exact h s
  · exact .refl s

theorem keepsSleep_expiry {due : State → Bool} {f : State → State} (h : ∀ s, OnlyBlocks s (f s)) :
    KeepsSleep (whenActive (whenDue due f)) := keepsSleep_active (only_whenDue h)

theorem keepsSleep_ports {f : State → State} (h : ∀ s, OnlyPorts s (f s)) : KeepsSleep f :=
  keepsSleep_of_same fun s hp => ⟨(h s).toBlocks.part ▸ hp, (h s).toBlocks.quiet, (h s).toBlocks.pins, (h s).chans⟩

theorem keepsSleep_whenDue {due : State → Bool} {f : State → State} (h : KeepsSleep f) :
    KeepsSleep (whenDue due f) := fun s hs hp => by
  unfold whenDue at hp ⊢
  split at hp
  next hd => rw [if_pos hd]; exact h s hs hp
  next hd => rw [if_neg hd]; exact hs.asleep hp

theorem part_wakePort (s : State) (p : Port) : (s.wakePort p).part = s.part := by
  unfold State.wakePort
  split
  · exact (only_restartStatus s p).toBlocks.part
  · rfl

theorem part_awake (s : State) : s.awake.part = .active := by
  unfold State.awake
  split
  next h => exact h
  next =>
    unfold State.wakeUp
    rw [part_wakePort, part_wakePort]

theorem part_judge {src : Source} {kind byte1 : Byte} {judgement : State → Verdict} {s : State}
    (h : VerdictBlocks s (judgement s)) : (State.judge src kind byte1 judgement s).part = s.part := by
  unfold State.judge
  unfold VerdictBlocks at h
  split
  next t e => rw [e] at h; exact h.part
  next => exact (only_offerReply s _ _ _ _ _).toBlocks.part

/-- A frame that is judged has woken the part; any other leaves it as it is, but for its ports. -/
theorem keepsSleep_takeFrame {src : Source} {judged : State → State} (h : ∀ s, (judged s).part = s.part) :
    KeepsSleep (State.takeFrame src judged) := keepsSleep_of_same fun s hp => by
  unfold State.takeFrame at hp ⊢
  split at hp
  next e =>
    exact ⟨(only_seeActivity s _).toBlocks.part ▸ hp, (only_seeActivity s _).toBlocks.quiet,
      (only_seeActivity s _).toBlocks.pins, (only_seeActivity s _).chans⟩
  next e =>
    split at hp
    next wired => rw [if_pos wired]; exact ⟨hp, rfl, rfl, rfl⟩
    next =>
      exfalso
      split at hp
      · rw [h, (only_refresh _ _ _).part, part_awake] at hp
        exact nomatch hp
      · rw [part_awake] at hp
        exact nomatch hp

theorem keepsSleep_request {src : Source} {kind byte1 : Byte} {judgement : State → Verdict}
    (h : ∀ s, VerdictBlocks s (judgement s)) : KeepsSleep (State.request src kind byte1 judgement) :=
  keepsSleep_takeFrame fun s => part_judge (h s)

theorem keepsSleep_ignoreFrame (p : Port) (f : CanFrame) : KeepsSleep (State.ignoreFrame p f) :=
  keepsSleep_of_same fun s hp => by
    unfold State.ignoreFrame at hp ⊢
    split at hp
    next =>
      exact ⟨(only_seeActivity s _).toBlocks.part ▸ hp, (only_seeActivity s _).toBlocks.quiet,
        (only_seeActivity s _).toBlocks.pins, (only_seeActivity s _).chans⟩
    next =>
      split at hp
      next e => exact ⟨hp, rfl, rfl, rfl⟩
      next cl e =>
        split at hp
        next taken => rw [if_pos taken]; exact ⟨hp, rfl, rfl, rfl⟩
        next => rw [part_awake] at hp; exact nomatch hp

theorem keepsSleep_refuseFrame (p : Port) (f : CanFrame) : KeepsSleep (State.refuseFrame p f) := fun s hs hp => by
  unfold State.refuseFrame at hp ⊢
  split at hp
  next cl code _ _ =>
    split at hp
    next taken =>
      rw [if_pos taken]
      exact keepsSleep_takeFrame (fun t => (only_offerReply t _ _ _ _ _).toBlocks.part) s hs hp
    next skipped => rw [if_neg skipped]; exact hs.asleep hp
  next => exact hs.asleep hp

theorem keepsSleep_awake : KeepsSleep State.awake := fun s _ hp => by
  rw [part_awake] at hp; exact nomatch hp

/-- The levels of a wired sample that activates no pin are those before it, or inactive. -/
theorem level_samplePins {s : State} {l : PinLevels} (calm : s.anyActivates l = false) (p : Pin)
    (h : s.level p = false) : (s.samplePins l).level p = false ∧ s.pinDeactivates l p = false := by
  have none : s.pinActivates l p = false := by
    unfold State.anyActivates at calm
    simp only [Bool.or_eq_false_iff] at calm
    cases p
    · exact calm.1.1.1
    · exact calm.1.1.2
    · exact calm.1.2
    · exact calm.2
  have sampled : (s.samplePins l).level p = ((s.pins.get p).sample (levelOf l p)).level := by cases p <;> rfl
  unfold State.level at h
  unfold State.pinActivates PinRecord.activates at none
  unfold State.pinDeactivates PinRecord.deactivates
  rw [sampled, h] at *
  exact ⟨by simpa using none, rfl⟩

theorem only_inputChange (s : State) (activates deactivates : Bool) (w : WiredInput) :
    OnlyDemand s (s.inputChange activates deactivates w) := by
  unfold State.inputChange
  split
  · exact only_activateInput s w
  · split
    · exact only_deactivateInput s w
    · exact .refl s

theorem keepsSleep_wiredSample (l : PinLevels) : KeepsSleep fun s => s.wiredSample l := fun s hs hp => by
  by_cases wakes : s.anyActivates l = true
  · exfalso
    have active : (s.wiredSample l).part = .active := by
      unfold State.wiredSample
      dsimp only
      rw [(only_inputChange _ _ _ _).toBlocks.part, (only_inputChange _ _ _ _).toBlocks.part,
        (only_inputChange _ _ _ _).toBlocks.part, if_pos wakes, part_awake]
    rw [active] at hp
    exact nomatch hp
  · have calm : s.anyActivates l = false := by simpa using wakes
    have asleep : s.part = .sleep := by
      change (s.wiredSample l).part = .sleep at hp
      unfold State.wiredSample at hp
      dsimp only at hp
      rw [(only_inputChange _ _ _ _).toBlocks.part, (only_inputChange _ _ _ _).toBlocks.part,
        (only_inputChange _ _ _ _).toBlocks.part, if_neg wakes] at hp
      exact hp
    obtain ⟨quiet, levels, rests⟩ := hs.asleep asleep
    have quietPins : ∀ p, s.pinActivates l p = false := fun p => by
      unfold State.anyActivates at calm
      simp only [Bool.or_eq_false_iff] at calm
      cases p
      · exact calm.1.1.1
      · exact calm.1.1.2
      · exact calm.1.2
      · exact calm.2
    have plain : s.wiredSample l = s.samplePins l := by
      unfold State.wiredSample
      dsimp only
      rw [if_neg wakes]
      simp only [quietPins, (level_samplePins calm _ (levels _)).2, State.inputChange, Bool.false_eq_true, if_false]
    change (s.wiredSample l).quiet = none ∧ (∀ p, (s.wiredSample l).level p = false) ∧
      ∀ ch, ((s.wiredSample l).chan ch).atRest = true
    rw [plain]
    exact ⟨quiet, fun p => (level_samplePins calm p (levels p)).1, rests⟩

/-! ### The end of a command -/

theorem sleepReady_iff (s : State) : s.sleepReady = true ↔
    s.restIn = ⟨false, false, false, false⟩ ∧ (∀ ch : Ch, s.restCh[ch] = true) ∧ s.quiet = some 5000 := by
  unfold State.sleepReady
  cases hr : s.restIn with
  | mk brake hazard reverse key =>
    simp only [Bool.and_eq_true, Bool.not_eq_true', decide_eq_true_eq, List.all_eq_true, mem_allChannels,
      forall_const, PerPin.mk.injEq]
    constructor
    · rintro ⟨⟨⟨⟨⟨h₁, h₂⟩, h₃⟩, h₄⟩, h₅⟩, h₆⟩
      exact ⟨⟨h₂, h₃, h₄, h₁⟩, h₅, h₆⟩
    · rintro ⟨⟨h₂, h₃, h₄, h₁⟩, h₅, h₆⟩
      exact ⟨⟨⟨⟨⟨h₁, h₂⟩, h₃⟩, h₄⟩, h₅⟩, h₆⟩

theorem sleepsAtRest_settle {before s : State} (h : s.part = .sleep →
    s.quiet = none ∧ (∀ p, s.level p = false) ∧ ∀ ch, (s.chan ch).atRest = true) :
    (State.settle before s).SleepsAtRest := by
  refine ⟨settle_restHanded before s, fun asleep => ?_⟩
  have chan : ∀ ch, (State.settle before s).chan ch = s.chan ch := fun ch => by
    unfold State.chan; rw [settle_chans]
  have handedCh : ∀ ch : Ch, s.handRest.restCh[ch] = (s.chan ch).atRest := fun ch => mapChannels_get _ _ _
  simp only [chan]
  unfold State.settle at asleep ⊢
  dsimp only at asleep ⊢
  split at asleep
  next cond =>
    rw [if_pos cond]
    obtain ⟨restIn, restCh, -⟩ := (sleepReady_iff _).mp cond.2.2
    exact ⟨rfl, restIn, fun ch => by rw [← handedCh]; exact restCh ch⟩
  next cond =>
    rw [if_neg cond]
    obtain ⟨quiet, levels, rests⟩ := h asleep
    exact ⟨quiet, by unfold State.handRest; dsimp only; simp only [levels], rests⟩

theorem KeepsSleep.run {f : State → State} (h : KeepsSleep f) {s : State} (hs : s.SleepsAtRest) :
    (s.run f).SleepsAtRest := by
  unfold State.run
  split
  · exact sleepsAtRest_settle (h s hs)
  · exact hs

theorem keepsSleep_sleepEntry : KeepsSleep (whenActive (whenDue State.sleepReady State.enterSleep)) :=
  fun s hs hp => by
    unfold whenActive whenDue at hp ⊢
    split at hp
    next active =>
      rw [if_pos active]
      split at hp
      next ready =>
        rw [if_pos ready]
        obtain ⟨restIn, restCh, -⟩ := (sleepReady_iff s).mp ready
        refine ⟨rfl, level_of_restIn hs.1 restIn, fun ch => ?_⟩
        have rest := restCh ch
        rw [hs.1.1, mapChannels_get] at rest
        exact rest
      next => rw [active] at hp; exact nomatch hp
    next asleep => rw [if_neg asleep]; exact hs.asleep hp

end Sys2Proof.Machine
end

section
/-!
PROOF. The expiries touch the blocks alone, every command is an effect that keeps SLEEP, and every step keeps
SLEEP at rest (R161, R163).
-/
namespace Sys2Proof.Machine

/-! ### Expiries touch the blocks alone -/

theorem only_expireWindow (ch : Ch) (s : State) : OnlyBlocks s (State.expireWindow ch s) :=
  (((only_setChan s ch _).trans (only_setUnit _ (feedOf ch) _)).trans (only_examine _ _)).toBlocks

theorem only_expireGoodRun (ch : Ch) (s : State) : OnlyBlocks s (State.expireGoodRun ch s) :=
  (only_setChan s ch _).toBlocks

theorem only_startPeriod (ch : Ch) (s : State) : OnlyBlocks s (State.startPeriod ch s) :=
  (only_setChan s ch _).toBlocks

theorem only_expireTimed (ch : Ch) (cl : Client) (s : State) : OnlyBlocks s (State.expireTimed ch cl s) :=
  ((only_removeEntry s ch cl).trans (only_offerEvent _ _).toDemand).toBlocks

theorem only_expireAdmitDelay (ch : Ch) (s : State) : OnlyBlocks s (State.expireAdmitDelay ch s) :=
  (only_setUnit s (feedOf ch) _).toBlocks.trans (only_offerEvent _ _).toBlocks

theorem only_shedStep (f : Feed) (s : State) : OnlyBlocks s (State.shedStep f s) :=
  (only_setMonitor s f _).trans (only_shedOne _ f .low)

theorem only_beginDrive (br : Bridge) (s : State) : OnlyBlocks s (State.beginDrive br s) := by
  unfold State.beginDrive
  split
  · exact (only_setBridge s br _).toBlocks
  · exact .refl s

theorem only_expireDrive (br : Bridge) (s : State) : OnlyBlocks s (State.expireDrive br s) :=
  (only_endDrive s br _).toBlocks

theorem only_beginBrake (br : Bridge) (s : State) : OnlyBlocks s (State.beginBrake br s) :=
  (only_setBridge s br _).toBlocks

theorem only_endBrake (br : Bridge) (s : State) : OnlyBlocks s (State.endBrake br s) :=
  (only_setBridge s br _).toBlocks

theorem only_endDeadAfterBrake (br : Bridge) (s : State) : OnlyBlocks s (State.endDeadAfterBrake br s) := by
  unfold State.endDeadAfterBrake
  split
  · exact only_beginDrive br s
  · exact (only_setBridge s br _).toBlocks.trans (only_finishDrive _ br).toBlocks

theorem only_expireRest (br : Bridge) (s : State) : OnlyBlocks s (State.expireRest br s) :=
  (only_setBridge s br _).toBlocks

theorem only_completeRead (p : Port) (s : State) : OnlyPorts s (State.completeRead p s) := by
  unfold State.completeRead
  dsimp only
  split
  · exact .refl s
  · split
    · exact only_checkRead s p
    · split
      · exact only_departure s p
      · exact .refl s

/-! ### Every command -/

/-- The command is an effect on a powered part that keeps SLEEP. -/
def RunsKeepingSleep (i : Instr) : Prop := ∃ f, (∀ s, exec i s = .next (s.run f)) ∧ KeepsSleep f

theorem runs_expiry {i : Instr} {due : State → Bool} {f : State → State} (h : ∀ s, OnlyBlocks s (f s))
    (e : ∀ s, exec i s = .next (s.run (whenActive (whenDue due f)))) : RunsKeepingSleep i :=
  ⟨_, e, keepsSleep_expiry h⟩

theorem runs_request {i : Instr} {src : Source} {kind byte1 : Byte} {judgement : State → Verdict}
    (h : ∀ s, VerdictBlocks s (judgement s))
    (e : ∀ s, exec i s = .next (s.run (State.request src kind byte1 judgement))) : RunsKeepingSleep i :=
  ⟨_, e, keepsSleep_request h⟩

theorem runs_wired {i : Instr} {due : State → Bool} {l : PinLevels}
    (e : ∀ s, exec i s = .next (s.run (whenDue due fun t => t.wiredSample l))) : RunsKeepingSleep i :=
  ⟨_, e, keepsSleep_whenDue (keepsSleep_wiredSample l)⟩

/-- Every command but the two of the supply keeps SLEEP. -/
theorem exec_runsKeepingSleep {i : Instr} (hr : ∀ zone, i ≠ .powerOnReset zone) (hl : i ≠ .vkeepLoss) :
    RunsKeepingSleep i := by
  cases i with
  | powerOnReset zone => exact absurd rfl (hr zone)
  | vkeepLoss => exact absurd rfl hl
  | present src => exact runs_request (judgement := .accept) (fun s => OnlyBlocks.refl s) fun _ => rfl
  | setSteady src b d => exact runs_request (blocks_setSteady _ b d) fun _ => rfl
  | setTimed src b d n => exact runs_request (blocks_setTimed _ b d n) fun _ => rfl
  | setFlash src b d g n => exact runs_request (blocks_setFlash _ b d g n) fun _ => rfl
  | setInhibit src b => exact runs_request (blocks_setInhibit _ b) fun _ => rfl
  | drive src b d n => exact runs_request (blocks_drive _ b d n) fun _ => rfl
  | release src b => exact runs_request (blocks_release _ b) fun _ => rfl
  | clear src b => exact runs_request (blocks_clear _ b) fun _ => rfl
  | hold src b l n => exact runs_request (blocks_hold _ b l n) fun _ => rfl
  | unhold src b => exact runs_request (blocks_unhold _ b) fun _ => rfl
  | flashCfg src b p o => exact runs_request (blocks_flashCfg _ b p o) fun _ => rfl
  | profileA src b c u r k => exact runs_request (blocks_profileA _ b c u r k) fun _ => rfl
  | profileB src b m w r o => exact runs_request (blocks_profileB _ b m w r o) fun _ => rfl
  | profileC src b m r k => exact runs_request (blocks_profileC _ b m r k) fun _ => rfl
  | profileD src b p v => exact runs_request (blocks_profileD _ b p v) fun _ => rfl
  | profileE src b r n m d => exact runs_request (blocks_profileE _ b r n m d) fun _ => rfl
  | profileF src b a n k d l => exact runs_request (blocks_profileF _ b a n k d l) fun _ => rfl
  | feedCfg src b p c v => exact runs_request (blocks_feedCfg _ b p c v) fun _ => rfl
  | clientCfg src b n => exact runs_request (blocks_clientCfg _ b n) fun _ => rfl
  | statusCfg src b n => exact runs_request (blocks_statusCfg _ b n) fun _ => rfl
  | read src b => exact runs_request (blocks_read _ b) fun _ => rfl
  | reset src => exact runs_request (blocks_reset src) fun _ => rfl
  | frameIgnored p f => exact ⟨_, fun _ => rfl, keepsSleep_ignoreFrame p f⟩
  | frameRefusedByPort p f => exact ⟨_, fun _ => rfl, keepsSleep_refuseFrame p f⟩
  | senseSample ch r o =>
    exact ⟨_, fun _ => rfl, keepsSleep_active fun s => (only_senseSample s ch r o).toBlocks⟩
  | openSet ch r o => exact runs_expiry (fun s => (only_senseSample s ch r o).toBlocks) fun _ => rfl
  | openClear ch r o => exact runs_expiry (fun s => (only_senseSample s ch r o).toBlocks) fun _ => rfl
  | inrushWindowExpiry ch => exact runs_expiry (only_expireWindow ch) fun _ => rfl
  | goodRunTimerExpiry ch => exact runs_expiry (only_expireGoodRun ch) fun _ => rfl
  | periodStart ch => exact runs_expiry (only_startPeriod ch) fun _ => rfl
  | timedExpiry ch cl => exact runs_expiry (only_expireTimed ch cl) fun _ => rfl
  | silenceExpiry cl => exact runs_expiry (fun s => only_expireSilence s cl) fun _ => rfl
  | inputActivation w l => exact runs_wired fun _ => rfl
  | inputDeactivation w l => exact runs_wired fun _ => rfl
  | keyChange l => exact runs_wired fun _ => rfl
  | admitDelay ch => exact runs_expiry (only_expireAdmitDelay ch) fun _ => rfl
  | holdExpiry f => exact runs_expiry (fun s => (only_endHold s f .expired none).toBlocks) fun _ => rfl
  | feedSample f v c => exact ⟨_, fun _ => rfl, keepsSleep_active fun s => only_feedSample s f v c⟩
  | feedStateChange f v c => exact runs_expiry (fun s => only_feedSample s f v c) fun _ => rfl
  | shedStep f => exact runs_expiry (only_shedStep f) fun _ => rfl
  | overloadShed f v c => exact runs_expiry (fun s => only_feedSample s f v c) fun _ => rfl
  | restore f v c => exact runs_expiry (fun s => only_feedSample s f v c) fun _ => rfl
  | onPhaseEnd g => exact runs_expiry (fun s => (only_endOnPhase s g).toBlocks) fun _ => rfl
  | flashDone g ch cl => exact runs_expiry (fun s => (only_endOnPhase s g).toBlocks) fun _ => rfl
  | offPhaseEnd g => exact runs_expiry (fun s => (only_endOffPhase s g).toBlocks) fun _ => rfl
  | deadBeforeDriveExpiry br => exact runs_expiry (only_beginDrive br) fun _ => rfl
  | driveTimerExpiry br => exact runs_expiry (only_expireDrive br) fun _ => rfl
  | stallEnd br r o =>
    exact runs_expiry (fun s => (only_senseSample s (bridgeChannel br) r o).toBlocks) fun _ => rfl
  | deadBeforeBrakeExpiry br => exact runs_expiry (only_beginBrake br) fun _ => rfl
  | brakeExpiry br => exact runs_expiry (only_endBrake br) fun _ => rfl
  | deadAfterBrakeExpiry br => exact runs_expiry (only_endDeadAfterBrake br) fun _ => rfl
  | restTimerExpiry br => exact runs_expiry (only_expireRest br) fun _ => rfl
  | statusRound p => exact runs_expiry (fun s => (only_restartStatus s p).toBlocks) fun _ => rfl
  | transmitComplete p => exact ⟨_, fun _ => rfl, keepsSleep_ports fun s => only_departure s p⟩
  | readCompletion p => exact ⟨_, fun _ => rfl, keepsSleep_ports (only_completeRead p)⟩
  | transmitError p => exact ⟨_, fun _ => rfl, keepsSleep_ports fun s => only_transmitError s p⟩
  | busOff p =>
    exact ⟨_, fun _ => rfl, keepsSleep_whenDue (keepsSleep_ports fun s => only_transmitError s p)⟩
  | busRecovery p =>
    exact ⟨_, fun _ => rfl, keepsSleep_whenDue (keepsSleep_ports fun s => only_recoverPort s p)⟩
  | sleepEntry => exact ⟨_, fun _ => rfl, keepsSleep_sleepEntry⟩
  | wake cause => exact ⟨_, fun _ => rfl, keepsSleep_whenDue keepsSleep_awake⟩
  | wiredInputSample l => exact ⟨_, fun _ => rfl, keepsSleep_wiredSample l⟩
  | busActivity p => exact ⟨_, fun _ => rfl, keepsSleep_ports fun s => only_seeActivity s p⟩

/-! ### Every step -/

theorem restHanded_of {s t : State} (h : s.RestHanded) (rests : ∀ ch, (t.chan ch).atRest = (s.chan ch).atRest)
    (restCh : t.restCh = s.restCh) (restIn : t.restIn = s.restIn) (pins : t.pins = s.pins) : t.RestHanded := by
  have chans : mapChannels Channel.atRest t.chans = mapChannels Channel.atRest s.chans :=
    Vector.ext fun n hn => by
      have here := rests ⟨n, hn⟩
      rw [State.chan, State.chan, ← mapChannels_get Channel.atRest, ← mapChannels_get Channel.atRest] at here
      exact here
  refine ⟨by rw [restCh, chans]; exact h.1, ?_⟩
  have level : ∀ p, t.level p = s.level p := fun p => by unfold State.level; rw [pins]
  rw [restIn, level, level, level, level]
  exact h.2

theorem sleepsAtRest_powerOn (zone : Fin 4) : (State.powerOn zone).SleepsAtRest := by
  refine ⟨⟨?_, rfl⟩, fun asleep => absurd asleep (by simp [State.powerOn])⟩
  decide +revert

theorem atRest_tick (s : State) (ch : Ch) : (s.tick.chan ch).atRest = (s.chan ch).atRest := by
  rcases s.chan_tick ch with e | e <;> rw [e]
  rfl

theorem sleepsAtRest_tick {s : State} (h : s.SleepsAtRest) : s.tick.SleepsAtRest := by
  refine ⟨restHanded_of h.1 (atRest_tick s) ?_ ?_ ?_, fun asleep => ?_⟩
  case refine_4 =>
    have before : s.part = .sleep ∧ s.tick.quiet = s.quiet ∧ s.tick.restIn = s.restIn := by
      unfold State.tick at asleep ⊢
      split at asleep
      next on =>
        rw [if_pos on]
        split at asleep
        next active => exact absurd (active.symm.trans asleep) (by simp)
        next sleeps => exact ⟨sleeps, rfl, rfl⟩
      next off => rw [if_neg off]; exact ⟨asleep, rfl, rfl⟩
    obtain ⟨part, quiet, restIn⟩ := before
    obtain ⟨quiet₀, restIn₀, rests⟩ := h.2 part
    exact ⟨quiet.trans quiet₀, restIn.trans restIn₀, fun ch => (atRest_tick s ch).trans (rests ch)⟩
  all_goals
    unfold State.tick
    split
    · split <;> rfl
    · rfl

/-- Settles O56: the rest conditions are handed over at the end of every command, and a part that sleeps
afterwards slept at rest before it or has just entered SLEEP. -/
theorem stepKeepsSleepAtRest : Obligations.StepKeepsSleepAtRest := by
  unfold Obligations.StepKeepsSleepAtRest
  intro s t hstep hs
  cases hp : s.pending with
  | nil =>
    rcases step_cases hstep with ⟨zone, e, -⟩ | ⟨e, -⟩ | ⟨-, rfl⟩ | ⟨c, e, -⟩
    case inr.inr.inl => exact sleepsAtRest_tick hs
    all_goals rw [hp] at e; exact nomatch e
  | cons c rest =>
    rw [step_head (c := c) (by rw [hp]; rfl)] at hstep
    by_cases hr : ∃ zone, c = .powerOnReset zone
    · obtain ⟨zone, rfl⟩ := hr
      cases hstep
      exact sleepsAtRest_powerOn zone
    · by_cases hl : c = .vkeepLoss
      · subst hl
        cases hstep
        exact hs
      · obtain ⟨f, run, keeps⟩ := exec_runsKeepingSleep (fun zone e => hr ⟨zone, e⟩) hl
        rw [run] at hstep
        cases hstep
        exact keeps.run (s := { s with pending := s.pending.tail }) hs

end Sys2Proof.Machine
end

section
/-!
PROOF. Requests and rights: what a judgement answers once its bytes name something and its sender may ask
(R32, R33, R36); and the obligations that speak of one command or of the state right after reset.
-/
namespace Sys2Proof.Machine

variable {i : Instr}

/-! ### Judgements -/

theorem check_pass {ok : Bool} {code : RefusalCode} {v : Verdict} (h : ok = true) : check ok code v = v :=
  if_pos h

theorem check_fail {ok : Bool} {code : RefusalCode} {v : Verdict} (h : ok = false) :
    check ok code v = .refuse code := if_neg (by simp [h])

theorem onChannel_named {b : Byte} {ch : Ch} {k : Ch → Verdict} (h : NamesChannel b ch) :
    onChannel b k = k ch := by
  unfold onChannel
  rw [channelOfByte_eq_some.mpr h]

theorem onChannel_none {b : Byte} {k : Ch → Verdict} (h : 16 ≤ b.toNat) :
    onChannel b k = .refuse .badTarget := by
  unfold onChannel
  rw [channelOfByte_eq_none.mpr h]

/-! ### Rights (R33) -/

theorem mayDemand_iff (r : Right) : r.mayDemand = true ↔ r = .demand ∨ r = .both := by cases r <;> decide

theorem mayInhibit_iff (r : Right) : r.mayInhibit = true ↔ r = .inhibit ∨ r = .both := by cases r <;> decide

theorem mayEither_iff (r : Right) : (r.mayDemand || r.mayInhibit) = true ↔ r ≠ .none := by cases r <;> decide

theorem allowsDemand_iff (s : State) (cl : Client) (ch : Ch) :
    (s.chan ch).profile.allowsDemand cl = true ↔ s.MayDemand cl ch := by
  cases cl with
  | wired => exact ⟨fun h => absurd h Bool.false_ne_true, False.elim⟩
  | service => exact ⟨fun _ => trivial, fun _ => rfl⟩
  | body => exact mayDemand_iff _
  | engine => exact mayDemand_iff _
  | climate => exact mayDemand_iff _

theorem allowsInhibit_iff (s : State) (cl : Client) (ch : Ch) :
    (s.chan ch).profile.allowsInhibit cl = true ↔ s.MayInhibit cl ch := by
  cases cl with
  | wired => exact ⟨fun h => absurd h Bool.false_ne_true, False.elim⟩
  | service => exact ⟨fun h => absurd h Bool.false_ne_true, False.elim⟩
  | body => exact mayInhibit_iff _
  | engine => exact mayInhibit_iff _
  | climate => exact mayInhibit_iff _

theorem allowsClear_iff (s : State) (cl : Client) (ch : Ch) :
    (s.chan ch).profile.allowsClear cl = true ↔ s.MayClear cl ch := by
  cases cl with
  | wired => exact ⟨fun h => absurd h Bool.false_ne_true, False.elim⟩
  | service => exact ⟨fun _ => trivial, fun _ => rfl⟩
  | body => exact mayEither_iff _
  | engine => exact mayEither_iff _
  | climate => exact mayEither_iff _

/-! ### The queue of commands -/

theorem Edit.pending_eq {s t : State} (h : Edit i s t) : t.pending = s.pending := by
  cases h with
  | other h => rw [h]
  | ports h => exact h.toBlocks.pending
  | leave => exact (only_leaveTo (s.setChan _ _) _ _).toBlocks.pending
  | place => rfl
  | bypass => exact (only_admit (s.setChan _ _) _).toBlocks.pending
  | head => exact (only_admit (s.setUnit _ _) _).toBlocks.pending
  | _ => rfl

theorem Fine.pending_eq {s t : State} (h : Fine i s t) : t.pending = s.pending := by
  cases h with
  | edit h => exact h.pending_eq
  | _ => rfl

theorem Moves.pending_eq {s t : State} (h : Moves i s t) : t.pending = s.pending :=
  h.keeps (I := fun u => u.pending = s.pending) (fun _ _ fine hs => fine.pending_eq.trans hs) rfl

/-- Settles O5: every command is an effect on a powered part, and a chain of moves. -/
theorem everyCommandCompletes : Obligations.EveryCommandCompletes := by
  unfold Obligations.EveryCommandCompletes
  refine ⟨fun c s => ?_, fun s => ⟨_, rfl, rfl, fun ch => rfl, fun br => rfl, fun c hr => ?_⟩⟩
  · by_cases hr : ∃ zone, c = .powerOnReset zone
    · obtain ⟨zone, rfl⟩ := hr
      exact ⟨_, rfl, rfl⟩
    · have noReset : ∀ zone, c ≠ .powerOnReset zone := fun zone e => hr ⟨zone, e⟩
      by_cases hl : c = .vkeepLoss
      · subst hl
        exact ⟨_, rfl, rfl⟩
      · obtain ⟨f, run, -⟩ := exec_runsKeepingSleep noReset hl
        exact ⟨_, run s, (exec_moves noReset hl (run s)).pending_eq⟩
  · by_cases hl : c = .vkeepLoss
    · subst hl
      rfl
    · obtain ⟨f, run, -⟩ := exec_runsKeepingSleep hr hl
      rw [run, run_off _ _ rfl]

/-! ### The front of the queue and the state right after reset -/

/-- Settles O1. -/
theorem stepTakesTheFrontCommand : Obligations.StepTakesTheFrontCommand := by
  unfold Obligations.StepTakesTheFrontCommand
  exact fun c rest s => rfl

theorem restCh_powerOn (zone : Fin 4) (ch : Ch) : (State.powerOn zone).restCh[ch] = true := by
  simp [State.powerOn]

/-- Settles O3. -/
theorem powerOnValues : Obligations.PowerOnValues := by
  unfold Obligations.PowerOnValues
  refine ⟨rfl, rfl, rfl, rfl, rfl, restCh_powerOn _, fun ch => ⟨Profile.powerOn ch, State.chan_reset ch⟩,
    slot_powerOn _, fun cl => ?_, fun p => ?_, fun w => ?_, rfl, rfl, fun f => ?_, fun g => ?_, fun br => ?_,
    fun p => ?_, fun zone s => rfl⟩
  · cases cl <;> rfl
  · cases p <;> rfl
  · cases w <;> rfl
  · cases f <;> rfl
  · cases g <;> rfl
  · cases br <;> rfl
  · cases p <;> rfl

/-- Settles O54: each invariant holds after a power-on reset of any zone. -/
theorem invariantsHoldAtReset : Obligations.InvariantsHoldAtReset := by
  unfold Obligations.InvariantsHoldAtReset
  exact ⟨queuesBounded_powerOn _, heatInRange_powerOn _, dutiesInRange_powerOn _, sleepsAtRest_powerOn _,
    admissionKept_powerOn _, budgetsKept_powerOn _, tripsBounded_powerOn _, ownersKept_powerOn _,
    wishesKept_powerOn _, bridgesKept_powerOn _, coherent_powerOn _, periodsKept_powerOn _⟩

/-! ### PRESENT (R27) -/

theorem Entry.isHeld_iff (o : Option Entry) : (o.map Entry.isHeld).getD false = (match o with
    | some (.steady _ true) => true
    | some (.flash _ _ _ _ _ true) => true
    | _ => false) := by
  cases o with
  | none => rfl
  | some e =>
    cases e with
    | steady d held => cases held <;> rfl
    | flash d g n r st held => cases held <;> rfl
    | _ => rfl

/-- Settles O8. -/
theorem presentRefreshesItsSender : Obligations.PresentRefreshesItsSender := by
  unfold Obligations.PresentRefreshesItsSender
  intro src s
  dsimp only
  refine ⟨fun found => if_neg found, fun lost => ?_, fun takes => ?_⟩
  · refine (if_pos lost).trans ?_
    unfold State.heldCount
    rw [← List.countP_eq_length_filter]
    simp only [Entry.isHeld_iff]
    rfl
  · exact congrArg Host.Outcome.next (run_request_accept s src _ _ _ (fun u => u) takes rfl)

/-! ### Offers (R147, R148) -/

theorem PortRecord.offer_of_room {r : PortRecord} {t : TxFrame} (h : r.st = .active ∧ r.queue.length < 12) :
    r.offer t = { r with queue := r.queue ++ [t] } := if_pos h

theorem PortRecord.offer_of_full {r : PortRecord} {t : TxFrame} (h : r.st = .busOff ∨ 12 ≤ r.queue.length) :
    r.offer t = { r with lost := true } := by
  refine if_neg fun ⟨active, room⟩ => ?_
  rcases h with off | full
  · rw [off] at active; exact nomatch active
  · exact absurd full (Nat.not_le.mpr room)

theorem offerEvent_port (s : State) (e : Event) (p : Port) :
    (s.offerEvent e).port p = (s.port p).offer (s.eventFrame e) := by cases p <;> rfl

theorem reportId_eq (zone : Fin 4) (k : Nat) :
    reportId zone k = BitVec.ofNat 11 (0x500 + 0x10 * zone.val + k) := rfl

theorem eventFrame_eq (s : State) (e : Event) :
    s.eventFrame e = { id := BitVec.ofNat 11 (0x509 + 0x10 * s.zone.val), data := e.bytes } := by
  rw [State.eventFrame, reportId_eq]
  congr 2
  omega

theorem replyFrame_eq (s : State) (kind : Byte) (cl : Client) (code : RefusalCode) (byte1 : Byte) :
    s.replyFrame kind cl code byte1 =
      ⟨BitVec.ofNat 11 (0x50A + 0x10 * s.zone.val), [kind, byte cl.number, byte code.code, byte1]⟩ := by
  rw [State.replyFrame, reportId_eq]
  congr 2
  omega

theorem Event.length_bytes (e : Event) : e.bytes.length = 8 := by
  cases e with
  | trip ch cause from' rms onCur count => cases onCur <;> rfl
  | _ => rfl

/-- Settles O10. -/
theorem offersEnterOrSetTheLostFlag : Obligations.OffersEnterOrSetTheLostFlag := by
  unfold Obligations.OffersEnterOrSetTheLostFlag
  intro s e p kind byte1 cl code
  dsimp only
  refine ⟨e.length_bytes, rfl, fun x => ?_, rfl, ?_, fun x other => ?_⟩
  · rw [offerEvent_port, eventFrame_eq]
    exact ⟨PortRecord.offer_of_room, PortRecord.offer_of_full⟩
  · unfold State.offerReply
    rw [State.port_setPort_same, replyFrame_eq]
    exact ⟨PortRecord.offer_of_room, PortRecord.offer_of_full⟩
  · unfold State.offerReply
    rw [State.port_setPort, if_neg other]

/-! ### Trip counts and period starts (R20, R21, R90) -/

/-- Settles O18. -/
theorem tripCountsAreCleared : Obligations.TripCountsAreCleared := by
  unfold Obligations.TripCountsAreCleared
  refine ⟨fun src b ch s takes names may => ?_, fun ch n s running on timer ended => ?_⟩
  · refine congrArg Host.Outcome.next (run_request_accept s src _ _ _ (fun u => u.setChan ch (u.chan ch).clear)
      takes ?_)
    unfold judgeClear
    rw [onChannel_named names, heard_chan, check_pass ((allowsClear_iff s _ ch).mpr may)]
  · refine congrArg Host.Outcome.next (run_due s _ _ running ?_)
    unfold State.goodRunDue
    simp only [on, decide_true, Bool.true_and]
    exact (reached_iff _ _).mpr ⟨n, timer, ended⟩

/-- Settles O29. -/
theorem periodStartsLatchTheDuty : Obligations.PeriodStartsLatchTheDuty := by
  unfold Obligations.PeriodStartsLatchTheDuty
  intro ch period t s running
  dsimp only
  intro admitted length timer waits
  refine congrArg Host.Outcome.next ((run_due s _ _ running ?_).trans ?_)
  · unfold State.periodDue Channel.startsDue
    rw [if_pos ((Channel.admitted_iff _).mpr admitted), timer]
    simpa using waits
  · unfold State.startPeriod Channel.startPeriod Channel.latch
    simp only [length, timer, Option.getD_some, Option.map_some]

end Sys2Proof.Machine
end

section
/-!
PROOF. The checks of the requests in their order (R36, R3, R144): a judgement whose checks pass down to one
that fails answers that check's code.
-/
namespace Sys2Proof.Machine

variable {i : Instr}

/-! ### Refusals -/

/-- A request command whose judgement refuses. -/
theorem refused_by {s : State} {src : Source} {c : Instr} {kind byte1 : Byte} {judgement : State → Verdict}
    {code : RefusalCode} (e : ∀ t, exec c t = .next (t.run (State.request src kind byte1 judgement)))
    (takes : s.Takes src) (h : judgement (s.heard src) = .refuse code) :
    exec c s = .next (s.refusedWith src kind byte1 code) := by
  rw [e, run_request_refuse s src kind byte1 judgement code takes h]

/-- A request command whose judgement accepts. -/
theorem accepted_by {s : State} {src : Source} {c : Instr} {kind byte1 : Byte} {judgement : State → Verdict}
    {effect : State → State} (e : ∀ t, exec c t = .next (t.run (State.request src kind byte1 judgement)))
    (takes : s.Takes src) (h : judgement (s.heard src) = .accept (effect (s.heard src))) :
    exec c s = .next (s.accepted src effect) := by
  rw [e, run_request_accept s src kind byte1 judgement effect takes h]

theorem typeOf_eq_bridge_iff_bridgeOf (ch : Ch) : typeOf ch = .bridge ↔ bridgeOf ch ≠ none := by
  revert ch; decide

theorem bridgeOf_of_type {ch : Ch} (h : typeOf ch = .bridge) : ∃ br, bridgeOf ch = some br :=
  Option.ne_none_iff_exists'.mp ((typeOf_eq_bridge_iff_bridgeOf ch).mp h)

theorem demand_denied {s : State} {cl : Client} {ch : Ch} (h : ¬ s.MayDemand cl ch) :
    (s.chan ch).profile.allowsDemand cl = false := by
  rw [← Bool.not_eq_true, allowsDemand_iff]; exact h

theorem inhibit_denied {s : State} {cl : Client} {ch : Ch} (h : ¬ s.MayInhibit cl ch) :
    (s.chan ch).profile.allowsInhibit cl = false := by
  rw [← Bool.not_eq_true, allowsInhibit_iff]; exact h

theorem clear_denied {s : State} {cl : Client} {ch : Ch} (h : ¬ s.MayClear cl ch) :
    (s.chan ch).profile.allowsClear cl = false := by
  rw [← Bool.not_eq_true, allowsClear_iff]; exact h

theorem BridgeRecord.ownedByOther_iff (r : BridgeRecord) (cl : Client) :
    r.ownedByOther cl = true ↔ ∃ x, r.owner = some x ∧ x ≠ cl := by
  unfold BridgeRecord.ownedByOther
  split
  next x e => simp [e]
  next e => simp [e]

theorem Admission.heldByOther_iff (u : Admission) (cl : Client) :
    u.heldByOther cl = true ↔ u.hold.map Hold.holder ≠ none ∧ u.hold.map Hold.holder ≠ some cl := by
  unfold Admission.heldByOther
  split
  next x e => simp [e]
  next e => simp [e]

theorem named_of_lt {b : Byte} (h : b.toNat < 2) : ∃ x, sideOfByte b = some x := by
  refine Option.ne_none_iff_exists'.mp fun none => ?_
  exact absurd (sideOfByte_eq_none.mp none) (Nat.not_le.mpr h)

/-! ### Channel requests (R36) -/

/-- Settles O12. -/
theorem channelRequestsAreCheckedInOrder : Obligations.ChannelRequestsAreCheckedInOrder := by
  unfold Obligations.ChannelRequestsAreCheckedInOrder
  intro src b d n g k s takes
  refine ⟨fun none => ⟨?_, ?_, ?_, ?_, ?_, ?_, fun one => ?_⟩, fun ch names => ⟨fun bridge => ⟨?_, ?_⟩, fun target => ?_,
    fun other => ?_, fun denied => ⟨fun other => ⟨?_, ?_⟩, fun lamp side => ?_, fun bridge => ?_⟩, fun denied => ?_,
    fun denied => ?_, fun br bridge may owned => ?_⟩⟩
  case refine_1 => exact refused_by (fun _ => rfl) takes (onChannel_none none)
  case refine_2 => exact refused_by (fun _ => rfl) takes (onChannel_none none)
  case refine_3 => exact refused_by (fun _ => rfl) takes (onChannel_none none)
  case refine_4 => exact refused_by (fun _ => rfl) takes (onChannel_none none)
  case refine_5 => exact refused_by (fun _ => rfl) takes (onChannel_none none)
  case refine_6 => exact refused_by (fun _ => rfl) takes (onChannel_none none)
  case refine_7 => exact refused_by (fun _ => rfl) takes ((if_neg one).trans (onChannel_none none))
  case refine_8 =>
    exact refused_by (fun _ => rfl) takes ((onChannel_named names).trans (check_fail (by simp [bridge])))
  case refine_9 =>
    exact refused_by (fun _ => rfl) takes ((onChannel_named names).trans (check_fail (by simp [bridge])))
  case refine_10 =>
    refine refused_by (fun _ => rfl) takes ((onChannel_named names).trans ?_)
    by_cases lamp : typeOf ch = .lamp
    · rw [check_pass (by simp [lamp]), sideOfByte_eq_none.mpr (target.resolve_left (not_not.mpr lamp))]
    · exact check_fail (by simp [lamp])
  case refine_11 =>
    refine refused_by (fun _ => rfl) takes ((onChannel_named names).trans ?_)
    rw [bridgeOf_of_not_bridge other]
  case refine_12 =>
    refine refused_by (fun _ => rfl) takes ((onChannel_named names).trans ?_)
    rw [check_pass (by simp [other]), heard_chan, check_fail (demand_denied denied)]
  case refine_13 =>
    refine refused_by (fun _ => rfl) takes ((onChannel_named names).trans ?_)
    rw [check_pass (by simp [other]), heard_chan, check_fail (demand_denied denied)]
  case refine_14 =>
    refine refused_by (fun _ => rfl) takes ((onChannel_named names).trans ?_)
    obtain ⟨x, named⟩ := named_of_lt side
    rw [check_pass (by simp [lamp]), named]
    exact check_fail (by rw [heard_chan, demand_denied denied])
  case refine_15 =>
    refine refused_by (fun _ => rfl) takes ((onChannel_named names).trans ?_)
    obtain ⟨br, e⟩ := bridgeOf_of_type bridge
    rw [e]
    exact check_fail (by rw [heard_chan, demand_denied denied])
  case refine_16 =>
    refine refused_by (fun _ => rfl) takes ((onChannel_named names).trans ?_)
    rw [heard_chan, check_fail (inhibit_denied denied)]
  case refine_17 =>
    refine refused_by (fun _ => rfl) takes ((onChannel_named names).trans ?_)
    rw [heard_chan, check_fail (clear_denied denied)]
  case refine_18 =>
    refine refused_by (fun _ => rfl) takes ((onChannel_named names).trans ?_)
    rw [bridge]
    refine (check_pass (by rw [heard_chan, allowsDemand_iff]; exact may)).trans (check_fail ?_)
    rw [heard_bridge, (BridgeRecord.ownedByOther_iff _ _).mpr owned]
    rfl

/-! ### Configuration requests (R3, R31, R52, R63, R64, R104, R150, R152, R164) -/

/-- A client's frame names the four clients that send frames. -/
theorem clientOfByte_none {b : Byte} (h : b.toNat = 0 ∨ 4 < b.toNat) : clientOfByte b = none := by
  unfold clientOfByte
  rw [if_neg (by omega), if_neg (by omega), if_neg (by omega), if_neg (by omega)]

theorem clientOfByte_named {b : Byte} (one : 1 ≤ b.toNat) (four : b.toNat ≤ 4) :
    ∃ who, clientOfByte b = some who := by
  have number : b.toNat = 1 ∨ b.toNat = 2 ∨ b.toNat = 3 ∨ b.toNat = 4 := by omega
  unfold clientOfByte
  rcases number with e | e | e | e <;> simp [e]

theorem heard_read (s : State) (src : Source) (p : Port) : ((s.heard src).port p).read = (s.port p).read := by
  unfold State.heard State.refresh
  dsimp only
  split
  · rw [offerEvent_port]
    unfold PortRecord.offer
    split <;> rfl
  · rfl

theorem mayHold_iff (cl : Client) : mayHold cl = true ↔ cl = .engine ∨ cl = .service := by
  cases cl <;> decide

theorem mayFlashCfg_iff (cl : Client) : mayFlashCfg cl = true ↔ cl = .body ∨ cl = .service := by
  cases cl <;> decide

theorem checkProfile_stranger {cl : Client} {ch : Ch} {s t : State} (h : cl ≠ .service) :
    checkProfile cl ch s t = .refuse .noRight := check_fail (by simp [h])

theorem checkProfile_running {cl : Client} {ch : Ch} {s t : State} (h : cl = .service)
    (st : (s.chan ch).st ≠ .off) : checkProfile cl ch s t = .refuse .state :=
  (check_pass (by simp [h])).trans (check_fail (by simp [st]))

theorem checkProfile_off {cl : Client} {ch : Ch} {s t : State} (h : cl = .service)
    (st : (s.chan ch).st = .off) : checkProfile cl ch s t = .accept t :=
  (check_pass (by simp [h])).trans (check_pass (by simp [st]))

/-- PROFILE_A to PROFILE_E are refused alike. -/
theorem profiles_refused {src : Source} {b x y z : Byte} {h i : Half} {n m : BitVec 4} {w : BitVec 24} {s : State}
    {code : RefusalCode} (takes : s.Takes src)
    (refuses : ∀ accepted : Ch → State, onChannel b (fun c => checkProfile src.client c (s.heard src) (accepted c)) =
      .refuse code) :
    exec (.profileA src b n m h i) s = .next (s.refusedWith src 0x30 b code) ∧
    exec (.profileB src b h i x y) s = .next (s.refusedWith src 0x31 b code) ∧
    exec (.profileC src b h i x) s = .next (s.refusedWith src 0x32 b code) ∧
    exec (.profileD src b w h) s = .next (s.refusedWith src 0x33 b code) ∧
    exec (.profileE src b x y z h) s = .next (s.refusedWith src 0x34 b code) :=
  ⟨refused_by (fun _ => rfl) takes (refuses _), refused_by (fun _ => rfl) takes (refuses _),
    refused_by (fun _ => rfl) takes (refuses _), refused_by (fun _ => rfl) takes (refuses _),
    refused_by (fun _ => rfl) takes (refuses _)⟩

theorem profileF_refused {src : Source} {b x y z k : Byte} {h : Half} {ch : Ch} {s : State} {code : RefusalCode}
    (takes : s.Takes src) (names : NamesChannel b ch) (bridge : typeOf ch = .bridge)
    (refuses : ∀ t : State, checkProfile src.client ch (s.heard src) t = .refuse code) :
    exec (.profileF src b h x y z k) s = .next (s.refusedWith src 0x35 b code) := by
  refine refused_by (fun _ => rfl) takes ((onChannel_named names).trans ?_)
  obtain ⟨br, e⟩ := bridgeOf_of_type bridge
  rw [e]
  exact refuses _

/-- Settles O47. -/
theorem configRequestsAreCheckedInOrder : Obligations.ConfigRequestsAreCheckedInOrder := by
  unfold Obligations.ConfigRequestsAreCheckedInOrder
  intro src b x y z k h i j n m w s takes
  dsimp only
  refine ⟨fun none => ⟨?noA, ?noF, ?noRead⟩, fun ch names => ⟨fun other => ?otherF, fun stranger => ⟨?strangerA,
    fun bridge => ?strangerF⟩, fun service on => ⟨?onA, fun bridge => ?onF⟩, fun reads => ?busyRead⟩, fun none => ?noSide,
    fun none => ?noClient, fun one four stranger => ?strangerClient, fun f named => ⟨fun stranger => ⟨?strangerFeed,
    ?strangerStatus⟩, fun hold => ⟨?noHold, ?noUnhold⟩, fun flash => ?noFlash, fun service on => ?onFeed,
    fun may held other => ⟨?busyHold, fun engine => ?busyUnhold⟩⟩, fun stranger => ?strangerReset⟩
  case noA => exact profiles_refused takes fun _ => onChannel_none none
  case noF => exact refused_by (fun _ => rfl) takes (onChannel_none none)
  case noRead => exact refused_by (fun _ => rfl) takes (onChannel_none none)
  case otherF =>
    refine refused_by (fun _ => rfl) takes ((onChannel_named names).trans ?_)
    rw [bridgeOf_of_not_bridge other]
  case strangerA => exact profiles_refused takes fun _ => (onChannel_named names).trans (checkProfile_stranger stranger)
  case strangerF => exact profileF_refused takes names bridge fun _ => checkProfile_stranger stranger
  case onA =>
    exact profiles_refused takes fun _ =>
      (onChannel_named names).trans (checkProfile_running service (by rwa [heard_chan]))
  case onF =>
    exact profileF_refused takes names bridge fun _ => checkProfile_running service (by rwa [heard_chan])
  case busyRead =>
    refine refused_by (fun _ => rfl) takes ((onChannel_named names).trans (check_fail ?_))
    rw [heard_read]
    simp [reads]
  case noSide =>
    have noName := sideOfByte_eq_none.mpr none
    refine ⟨refused_by (fun _ => rfl) takes ?_, refused_by (fun _ => rfl) takes ?_, refused_by (fun _ => rfl) takes ?_,
      refused_by (fun _ => rfl) takes ?_, refused_by (fun _ => rfl) takes ?_⟩
    · unfold judgeFeedCfg; rw [noName]
    · unfold judgeHold; rw [noName]
    · unfold judgeUnhold; rw [noName]
    · unfold judgeFlashCfg; rw [noName]
    · unfold judgeStatusCfg; rw [noName]
  case noClient =>
    refine refused_by (fun _ => rfl) takes ?_
    unfold judgeClientCfg
    rw [clientOfByte_none none]
  case strangerClient =>
    refine refused_by (fun _ => rfl) takes ?_
    obtain ⟨who, e⟩ := clientOfByte_named one four
    unfold judgeClientCfg
    rw [e]
    exact check_fail (by simp [stranger])
  case strangerFeed =>
    refine refused_by (fun _ => rfl) takes ?_
    unfold judgeFeedCfg
    rw [sideOfByte_eq_some.mpr named]
    exact check_fail (by simp [stranger])
  case strangerStatus =>
    refine refused_by (fun _ => rfl) takes ?_
    unfold judgeStatusCfg
    rw [sideOfByte_eq_some.mpr named]
    exact check_fail (by simp [stranger])
  case noHold =>
    refine refused_by (fun _ => rfl) takes ?_
    unfold judgeHold
    rw [sideOfByte_eq_some.mpr named]
    exact check_fail (by rcases hold with e | e <;> rw [e] <;> rfl)
  case noUnhold =>
    refine refused_by (fun _ => rfl) takes ?_
    unfold judgeUnhold
    rw [sideOfByte_eq_some.mpr named]
    exact check_fail (by rcases hold with e | e <;> rw [e] <;> rfl)
  case noFlash =>
    refine refused_by (fun _ => rfl) takes ?_
    unfold judgeFlashCfg
    rw [sideOfByte_eq_some.mpr named]
    exact check_fail (by rcases flash with e | e <;> rw [e] <;> rfl)
  case onFeed =>
    refine refused_by (fun _ => rfl) takes ?_
    unfold judgeFeedCfg
    rw [sideOfByte_eq_some.mpr named]
    refine (check_pass (by simp [service])).trans (check_fail ?_)
    obtain ⟨ch, feed, st⟩ := on
    refine List.all_eq_false.mpr ⟨ch, ?_, ?_⟩
    · exact List.mem_filter.mpr ⟨mem_allChannels ch, by simp [feed]⟩
    · rw [heard_chan]; simp [st]
  case busyHold =>
    refine refused_by (fun _ => rfl) takes ?_
    unfold judgeHold
    rw [sideOfByte_eq_some.mpr named]
    refine (check_pass ((mayHold_iff _).mpr may)).trans (check_fail ?_)
    rw [heard_unit, (Admission.heldByOther_iff _ _).mpr ⟨held, other⟩]
    rfl
  case busyUnhold =>
    refine refused_by (fun _ => rfl) takes ?_
    unfold judgeUnhold
    rw [sideOfByte_eq_some.mpr named]
    refine (check_pass ((mayHold_iff _).mpr may)).trans (check_fail ?_)
    rw [heard_unit, (Admission.heldByOther_iff _ _).mpr ⟨held, other⟩, engine]
    rfl
  case strangerReset => exact refused_by (fun _ => rfl) takes (check_fail (by simp [stranger]))

end Sys2Proof.Machine
end

section
/-!
PROOF. Accepted requests that write configurations, holds and profiles, and the soft reset (R4 to R9, R52, R63
to R65, R104, R164).
-/
namespace Sys2Proof.Machine

variable {i : Instr}

/-! ### What a change of demands leaves -/

/-- A change within the demand blocks that keeps the placed sets and what the channels learned. -/
theorem sameBeyond_of {s t : State} (only : OnlyDemand s t) (placed : t.placed = s.placed) (learned : Learned s t) :
    s.SameBeyondDemands t := by
  have h := only.toBlocks
  refine ⟨h.powered, h.zone, h.part, ?_, h.pins, placed, ?_, h.freeIndex, h.pending, learned⟩
  · rw [only]
  · rw [only]

/-- An accepted request starts the quiet timer, so that the end of its command enters no SLEEP (R160, R161). -/
theorem settle_noteAccepted (s t : State) : State.settle s t.noteAccepted = t.noteAccepted.handRest := by
  unfold State.settle
  refine if_neg fun ⟨_, _, ready⟩ => ?_
  obtain ⟨-, -, quiet⟩ := (sleepReady_iff _).mp ready
  exact absurd (Option.some.inj quiet) (by decide)

theorem accepted_eq (s : State) (src : Source) (effect : State → State) :
    s.accepted src effect = (effect (s.heard src)).noteAccepted.handRest := settle_noteAccepted s _

theorem restHanded_handRest (s : State) : s.handRest.RestHanded := ⟨rfl, rfl⟩

theorem handedOver_ended {s : State} {ch : Ch} (h : s.HandedOver ch) : s.noteAccepted.handRest.HandedOver ch := h

theorem sameWish_ended {s t : State} {ch : Ch} (h : s.SameWish t ch) : s.SameWish t.noteAccepted.handRest ch := h

theorem sameBeyond_ended {s t : State} (h : s.SameBeyondDemands t) :
    s.SameBeyondDemands t.noteAccepted.handRest := h

/-! ### Holds (R63 to R65) -/

theorem State.endHold_of_hold {s : State} {f : Feed} {h : Hold} (held : (s.unit f).hold = some h)
    (cause : HoldCause) (sender : Option Client) : s.endHold f cause sender =
      ((s.setUnit f { s.unit f with hold := none }).offerEvent
        (.holdEnd f h.holder h.level cause sender)).examine f := by
  unfold State.endHold
  rw [held]

theorem State.endHold_of_none {s : State} {f : Feed} (held : (s.unit f).hold = none) (cause : HoldCause)
    (sender : Option Client) : s.endHold f cause sender = s := by
  unfold State.endHold
  rw [held]

theorem Admission.not_heldByOther {u : Admission} {cl : Client} (h : ∀ x, u.hold = some x → x.holder = cl) :
    u.heldByOther cl = false := by
  unfold Admission.heldByOther
  split
  next x e => simp [h x e]
  next => rfl

/-- Settles O24. -/
theorem holdsBeginAndEnd : Obligations.HoldsBeginAndEnd := by
  unfold Obligations.HoldsBeginAndEnd
  intro src b level time f s named
  have side := sideOfByte_eq_some.mpr named
  refine ⟨fun ⟨takes, may⟩ own => ?_, fun ⟨takes, may⟩ empty => ?_, fun h held ⟨takes, may⟩ own => ?_,
    fun h held running over_ => ?_⟩
  · refine accepted_by (fun _ => rfl) takes ?_
    unfold judgeHold
    rw [side]
    refine (check_pass ((mayHold_iff _).mpr may)).trans (check_pass ?_)
    rw [heard_unit, Admission.not_heldByOther own]
    rfl
  · refine accepted_by (fun _ => rfl) takes ?_
    unfold judgeUnhold
    rw [side]
    refine (check_pass ((mayHold_iff _).mpr may)).trans ((check_pass ?_).trans ?_)
    · rw [heard_unit, Admission.not_heldByOther fun x e => absurd (empty.symm.trans e) (by simp)]
      simp
    · rw [State.endHold_of_none (by rw [heard_unit]; exact empty)]
  · refine accepted_by (fun _ => rfl) takes ?_
    unfold judgeUnhold
    rw [side]
    refine (check_pass ((mayHold_iff _).mpr may)).trans ((check_pass ?_).trans ?_)
    · rcases own with own | service
      · rw [heard_unit, Admission.not_heldByOther fun x e => by rw [held] at e; cases e; exact own]
        simp
      · simp [service]
    · rw [State.endHold_of_hold (by rw [heard_unit]; exact held)]
  · refine congrArg Host.Outcome.next ((run_due s _ _ running ?_).trans ?_)
    · unfold State.holdDue
      rw [held]
      simpa using over_
    · rw [State.endHold_of_hold held]

/-! ### Flash and feed configurations (R52, R104) -/

theorem chan_overProfiles {w : Profile → Profile} (l : List Ch) (nodup : l.Nodup) (s : State) (x : Ch) :
    (s.overChannels (fun ch t => t.setChan ch { t.chan ch with profile := w (t.chan ch).profile }) l).chan x =
      if x ∈ l then { s.chan x with profile := w (s.chan x).profile } else s.chan x := by
  unfold State.overChannels
  induction l generalizing s with
  | nil => rfl
  | cons ch l ih =>
    obtain ⟨fresh, rest⟩ := List.nodup_cons.mp nodup
    rw [List.foldl_cons, ih rest, State.chan_setChan]
    by_cases here : x = ch
    · subst here
      simp [fresh]
    · simp [here]

theorem only_overProfiles {w : Profile → Profile} (l : List Ch) (s : State) :
    (s.overChannels (fun ch t => t.setChan ch { t.chan ch with profile := w (t.chan ch).profile }) l) =
      { s with chans := (s.overChannels (fun ch t =>
        t.setChan ch { t.chan ch with profile := w (t.chan ch).profile }) l).chans } := by
  unfold State.overChannels
  induction l generalizing s with
  | nil => rfl
  | cons ch l ih => rw [List.foldl_cons, ih]; rfl

theorem examine_of_empty {s : State} {f : Feed} (h : (s.unit f).queue = []) : s.examine f = s := by
  unfold State.examine
  rw [h]
  rfl

/-- A FEED_CFG on an empty queue writes the figures and the claims, and nothing is admitted (R52). -/
theorem acceptFeedCfg_of_empty {s : State} {f : Feed} (h : (s.unit f).queue = []) (peak cont vshed : Half) :
    s.acceptFeedCfg f peak cont vshed =
      (s.setUnit f { s.unit f with
        peak := clamp 100 4000 peak.toNat
        cont := min (clamp 100 4000 cont.toNat) (clamp 100 4000 peak.toNat)
        vshed := clamp 160 240 vshed.toNat }).overChannels
      (fun ch t => t.setChan ch { t.chan ch with
        profile := (t.chan ch).profile.clampClaims (clamp 100 4000 peak.toNat)
          (min (clamp 100 4000 cont.toNat) (clamp 100 4000 peak.toNat)) }) (channelsOf f) := by
  unfold State.acceptFeedCfg
  refine examine_of_empty ?_
  rw [only_overProfiles]
  change ((State.setUnit _ f _).unit f).queue = []
  rw [State.unit_setUnit_same]
  exact h

/-- Settles O38. -/
theorem configurationsAreWritten : Obligations.ConfigurationsAreWritten := by
  unfold Obligations.ConfigurationsAreWritten
  refine ⟨fun src b period share g s takes named may => ?_, fun port b peak cont vshed f s => ?_⟩
  · refine accepted_by (fun _ => rfl) takes ?_
    unfold judgeFlashCfg
    rw [sideOfByte_eq_some.mpr named]
    exact check_pass ((mayFlashCfg_iff _).mpr may)
  · dsimp only
    intro takes named off empty
    have accepts : exec (.feedCfg ⟨port, .service⟩ b peak cont vshed) s =
        .next (s.accepted ⟨port, .service⟩ fun u => u.acceptFeedCfg f peak cont vshed) := by
      refine accepted_by (fun _ => rfl) takes ?_
      unfold judgeFeedCfg
      rw [sideOfByte_eq_some.mpr named]
      refine (check_pass rfl).trans (check_pass (List.all_eq_true.mpr fun ch here => ?_))
      rw [heard_chan, off ch (mem_channelsOf.mp here)]
      rfl
    refine ⟨_, accepts.trans (congrArg _ (accepted_eq s _ _)), ?_⟩
    rw [acceptFeedCfg_of_empty (by rw [heard_unit]; exact empty), heard_unit]
    refine ⟨?_, fun g other => ?_, fun ch => ?_, rfl, restHanded_handRest _, ?_⟩
    · rw [only_overProfiles]
      exact State.unit_setUnit_same _ f _
    · rw [only_overProfiles]
      change (State.setUnit _ f _).unit g = _
      rw [State.unit_setUnit, if_neg other, heard_unit]
    · refine (chan_overProfiles _ (channelsOf_nodup f) _ ch).trans ?_
      rw [State.chan_setUnit, heard_chan]
      simp only [mem_channelsOf]
      rfl
    · rw [only_overProfiles]
      rfl

/-! ### The soft reset (R164) -/

theorem only_clearDemands (s : State) : OnlyDemand s s.clearDemands := rfl

theorem level_of_pins {s t : State} (h : t.pins = s.pins) (p : Pin) : t.level p = s.level p := by
  unfold State.level; rw [h]

theorem replaceInput_eq {s t : State} (h : t.pins = s.pins) (w : WiredInput) :
    t.replaceInput w = if s.level (pinOf w) = true then t.activateInput w else t := by
  unfold State.replaceInput
  rw [level_of_pins h]

/-- The inputs are taken one after another, none of them changing a pin (R49). -/
theorem softReset_eq (s : State) (p : Port) : s.softReset p =
    let again (u : State) (w : WiredInput) : State := if s.level (pinOf w) = true then u.activateInput w else u
    again (again (again (s.clearDemands.offerEvent (.resetDone p s.zone)) .brake) .hazard) .reverse := by
  unfold State.softReset
  dsimp only
  have told : (s.clearDemands.offerEvent (.resetDone p s.zone)).pins = s.pins :=
    ((only_offerEvent _ _).toBlocks.pins).trans (only_clearDemands s).toBlocks.pins
  have replaced : ∀ {t : State} (w : WiredInput), t.pins = s.pins → (t.replaceInput w).pins = s.pins :=
    fun {t} w h => (only_replaceInput t w).toBlocks.pins.trans h
  rw [← replaceInput_eq told, ← replaceInput_eq (replaced .brake told),
    ← replaceInput_eq (replaced .hazard (replaced .brake told))]

/-- A switch of the bridge is on in DRIVE, in BRAKE, and in IDLE with its low sides closed (R125). -/
theorem anySwitchOn_iff (s : State) (br : Bridge) : s.anySwitchOn br = true ↔
    (s.bridge br).st = .drive ∨ (s.bridge br).st = .brake ∨
      ((s.bridge br).st = .idle ∧ (s.bridgeProfile br).idle = .brake ∧ (s.bridge br).rest = none) := by
  unfold State.anySwitchOn State.lowSidesClosed
  split
  next e => simp [e]
  next e => simp [e]
  next e => simp [e]
  next e => simp [e]

theorem restAfterLegsOff_eq (s : State) (br : Bridge) : s.restAfterLegsOff br =
    if (s.bridge br).st = .drive ∨ (s.bridge br).st = .brake ∨
      ((s.bridge br).st = .idle ∧ (s.bridgeProfile br).idle = .brake ∧ (s.bridge br).rest = none)
    then some 0 else (s.bridge br).rest := by
  unfold State.restAfterLegsOff
  simp only [anySwitchOn_iff]

/-- Settles O49. -/
theorem softResetClearsTheDemands : Obligations.SoftResetClearsTheDemands := by
  unfold Obligations.SoftResetClearsTheDemands
  intro port s
  have only := only_clearDemands s
  have blocks := only.toBlocks
  refine ⟨fun takes => accepted_by (fun _ => rfl) takes (check_pass rfl), softReset_eq s port, slot_clearDemands s, fun ch => ?_,
    fun f => unit_clearDemands s f, fun g => ?_, fun br => ?_, fun p => ?_, rfl, only.clients, only.mon, blocks.pins,
    blocks.part, blocks.zone, blocks.powered, blocks.quiet⟩
  · rw [chan_clearDemands]
    unfold Channel.softReset
    cases (s.chan ch).st <;> rfl
  · cases g <;> rfl
  · rw [← restAfterLegsOff_eq]
    cases br <;> rfl
  · cases p <;> rfl

end Sys2Proof.Machine
end

section
/-!
PROOF. The profiles as PROFILE_A to PROFILE_F write them (R3 to R10).
-/
namespace Sys2Proof.Machine

variable {i : Instr}

/-! ### Fields -/

theorem strip_eq (r : Right) :
    r.strip = if r = .inhibit then .none else if r = .both then .demand else r := by cases r <;> rfl

theorem rightOfCode_eq (n : Nat) : rightOfCode n = if n % 4 = 0 then .none else if n % 4 = 1 then .demand
    else if n % 4 = 2 then .inhibit else .both := by
  unfold rightOfCode
  split <;> simp_all

theorem byte_toNat_eq_iff (b : Byte) (n : Nat) (h : n < 256) : b.toNat = n ↔ b = BitVec.ofNat 8 n := by
  rw [← BitVec.toNat_inj, BitVec.toNat_ofNat, Nat.mod_eq_of_lt h]

theorem inputOfCode_eq (b : Byte) : inputOfCode b = if b = 0 then none else if b = 1 then some .brake
    else if b = 2 then some .hazard else some .reverse := by
  have zero := byte_toNat_eq_iff b 0 (by decide)
  have one := byte_toNat_eq_iff b 1 (by decide)
  have two := byte_toNat_eq_iff b 2 (by decide)
  unfold inputOfCode
  split <;> simp_all

theorem modeOfCode_eq (b : Byte) :
    modeOfCode b = if b = 0 then .steady else if b = 1 then .flash .a else .flash .b := by
  have zero := byte_toNat_eq_iff b 0 (by decide)
  have one := byte_toNat_eq_iff b 1 (by decide)
  unfold modeOfCode
  split <;> simp_all

theorem silenceOfCode_eq (b : Byte) : silenceOfCode b = if b = 0 then .hold else .release := by
  unfold silenceOfCode
  simp only [byte_toNat_eq_iff b 0 (by decide)]
  rfl

theorem idleOfCode_eq (b : Byte) : idleOfCode b = if b = 0 then .float else .brake := by
  unfold idleOfCode
  simp only [byte_toNat_eq_iff b 0 (by decide)]
  rfl

theorem clamp_zero (hi n : Nat) : clamp 0 hi n = min hi n := Nat.zero_max _

/-! ### INHIBIT entries removed (R4) -/

theorem slot_removeInhibits (s : State) (ch y : Ch) (cl : Client) : (s.removeInhibits ch).slot y cl =
    if y = ch ∧ s.slot y cl = some .inhibit then none else s.slot y cl := by
  have fold : ∀ (l : List Client) (t : State), l.Nodup →
      (l.foldl (fun t cl => if t.slot ch cl = some .inhibit then t.setSlot ch cl none else t) t).slot y cl =
        if y = ch ∧ cl ∈ l ∧ t.slot y cl = some .inhibit then none else t.slot y cl := by
    intro l
    induction l with
    | nil => intro t _; simp
    | cons x l ih =>
      intro t nodup
      obtain ⟨fresh, rest⟩ := List.nodup_cons.mp nodup
      rw [List.foldl_cons, ih _ rest]
      split
      next hx =>
        rw [State.slot_setSlot]
        by_cases here : y = ch ∧ cl = x
        · obtain ⟨rfl, rfl⟩ := here
          simp [hx]
        · rw [if_neg here]
          by_cases e : y = ch <;> by_cases e' : cl = x <;> simp_all
      next hx =>
        by_cases e : y = ch <;> by_cases e' : cl = x <;> simp_all
  refine (fold Client.all s (by decide)).trans ?_
  simp only [mem_allClients, true_and]

theorem chans_removeInhibits (s : State) (ch : Ch) : (s.removeInhibits ch).chans = s.chans :=
  List.foldlRecOn (motive := fun t : State => t.chans = s.chans) Client.all _ rfl fun t h cl _ => by
    split
    · exact h
    · exact h

theorem groups_removeInhibits (s : State) (ch : Ch) :
    (s.removeInhibits ch).groups = s.groups ∧ (s.removeInhibits ch).placed = s.placed ∧
      (s.removeInhibits ch).ports = s.ports :=
  List.foldlRecOn (motive := fun t : State => t.groups = s.groups ∧ t.placed = s.placed ∧ t.ports = s.ports)
    Client.all _ ⟨rfl, rfl, rfl⟩ fun t h cl _ => by
      split
      · exact h
      · exact h

/-! ### What is written -/

/-- A profile stored on a channel, its DEFAULT flag cleared (R3, R10). -/
def State.store (s : State) (ch : Ch) (p : Profile) : State :=
  s.setChan ch { s.chan ch with profile := p, default := false }

theorem chan_store_same (s : State) (ch : Ch) (p : Profile) :
    (s.store ch p).chan ch = { s.chan ch with profile := p, default := false } := State.chan_setChan_same _ _ _

theorem writeProfile_heard (s : State) (src : Source) (ch : Ch) {f : Profile → Profile} {p : Profile}
    (h : f (s.chan ch).profile = p) : (s.heard src).writeProfile ch f =
      (s.heard src).setChan ch { (s.heard src).chan ch with profile := p, default := false } := by
  unfold State.writeProfile
  rw [heard_chan, h]

/-- A profile request from SERVICE that names an OFF channel is accepted. -/
theorem profile_accepted {port : Port} {b kind : Byte} {ch : Ch} {c : Instr} {s : State} {accept : State → Ch → State}
    (e : ∀ t, exec c t = .next (t.run (State.request ⟨port, .service⟩ kind b fun u =>
      onChannel b fun x => checkProfile .service x u (accept u x))))
    (takes : s.Takes ⟨port, .service⟩) (named : NamesChannel b ch) (off : (s.chan ch).st = .off) {effect : State → State}
    (h : accept (s.heard ⟨port, .service⟩) ch = effect (s.heard ⟨port, .service⟩)) :
    exec c s = .next (s.accepted ⟨port, .service⟩ effect) :=
  accepted_by e takes ((onChannel_named named).trans
    ((checkProfile_off rfl (by rw [heard_chan]; exact off)).trans (congrArg _ h)))

/-- What PROFILE_A writes into the fields that are no right (R4). -/
def Profile.scaled (p : Profile) (t : ChannelType) (cls tau : BitVec 4) (rated short : Half) : Profile :=
  { p with
    cls := min 3 cls.toNat, tau := max 6 (min 14 tau.toNat), rated := max 5 (min t.ratedMax rated.toNat)
    short := max (max 5 (min t.ratedMax rated.toNat)) (min t.fullScale short.toNat)
    ishort := max p.ishort (max (max 5 (min t.ratedMax rated.toNat)) (min t.fullScale short.toNat)) }

theorem writeA_eq (t : ChannelType) (cls tau : BitVec 4) (rated short : Half) (p : Profile) :
    p.writeA t cls tau rated short =
      if min 3 cls.toNat = 0 then (p.scaled t cls tau rated short).stripInhibit else p.scaled t cls tau rated short := by
  unfold Profile.writeA Profile.scaled
  simp only [clamp_zero]
  rfl

theorem acceptProfileA_ranked {s : State} {ch : Ch} {cls : BitVec 4} (h : min 3 cls.toNat ≠ 0) (tau : BitVec 4)
    (rated short : Half) : s.acceptProfileA ch cls tau rated short =
      s.store ch ((s.chan ch).profile.scaled (typeOf ch) cls tau rated short) := by
  have written : s.writeProfile ch (Profile.writeA (typeOf ch) cls tau rated short) =
      s.store ch ((s.chan ch).profile.scaled (typeOf ch) cls tau rated short) := by
    unfold State.writeProfile State.store
    rw [writeA_eq, if_neg h]
  unfold State.acceptProfileA
  dsimp only
  rw [written]
  refine if_neg ?_
  rw [chan_store_same]
  exact h

theorem acceptProfileA_zero {s : State} {ch : Ch} {cls : BitVec 4} (h : min 3 cls.toNat = 0) (tau : BitVec 4)
    (rated short : Half) : s.acceptProfileA ch cls tau rated short =
      ((s.store ch ((s.chan ch).profile.scaled (typeOf ch) cls tau rated short).stripInhibit).removeInhibits
        ch).recomputed ch := by
  have written : s.writeProfile ch (Profile.writeA (typeOf ch) cls tau rated short) =
      s.store ch ((s.chan ch).profile.scaled (typeOf ch) cls tau rated short).stripInhibit := by
    unfold State.writeProfile State.store
    rw [writeA_eq, if_pos h]
  unfold State.acceptProfileA
  dsimp only
  rw [written]
  refine if_pos ?_
  rw [chan_store_same]
  exact h

theorem acceptProfileB_eq (s : State) (ch : Ch) (ishort window : Half) (retries openThr : Byte) :
    s.acceptProfileB ch ishort window retries openThr =
      (s.store ch ((s.chan ch).profile.writeB (typeOf ch) ishort window retries openThr)).setChan ch { s.chan ch with
        profile := (s.chan ch).profile.writeB (typeOf ch) ishort window retries openThr
        default := false
        tripCount := min (s.chan ch).tripCount
          ((s.chan ch).profile.writeB (typeOf ch) ishort window retries openThr).retries } := by
  unfold State.acceptProfileB State.writeProfile State.store
  dsimp only
  rw [State.chan_setChan_same]

theorem writeB_eq (t : ChannelType) (ishort window : Half) (retries openThr : Byte) (p : Profile) :
    p.writeB t ishort window retries openThr = { p with
      ishort := max p.short (min t.fullScale ishort.toNat), window := max 1 (min 500 window.toNat)
      retries := min 7 retries.toNat, openThr := min 100 openThr.toNat } := by
  unfold Profile.writeB
  simp only [clamp_zero]
  rfl

theorem writeC_eq (t : ChannelType) (peak cont : Nat) (iclaim rclaim : Half) (silence : Byte) (p : Profile) :
    p.writeC t peak cont iclaim rclaim silence = { p with
      iclaim := min peak iclaim.toNat, rclaim := min (min (min peak iclaim.toNat) cont) rclaim.toNat
      silence := if t = .bridge then none else some (if silence = 0 then .hold else .release) } := by
  unfold Profile.writeC
  simp only [clamp_zero, silenceOfCode_eq]

theorem writeD_eq (t : ChannelType) (period : BitVec 24) (vt : Half) (p : Profile) :
    p.writeD t period vt = { p with
      period := match t with
        | .lamp => some (max 2000 (min 20000 period.toNat))
        | .heater => some (max 100000 (min 1000000 period.toNat))
        | .fan => some (max 40 (min 100 period.toNat))
        | .bridge => none
      vt := if t ≠ .lamp ∨ vt.toNat = 0 then 0 else max 200 (min 280 vt.toNat) } := by
  cases t with
  | lamp =>
    unfold Profile.writeD vtStored
    by_cases zero : vt.toNat = 0 <;> simp [zero, ChannelType.periodRange, clamp]
  | heater => rfl
  | fan => rfl
  | bridge => rfl

theorem writeE_eq (t : ChannelType) (rights input mode : Byte) (duty : Half) (p : Profile) :
    let kept (r : Right) : Right := if t = .bridge ∨ p.cls = 0 then r.strip else r
    p.writeE t rights input mode duty = { p with
      rightBody := kept (rightOfCode rights.toNat), rightEngine := kept (rightOfCode (rights.toNat / 4))
      rightClimate := kept (rightOfCode (rights.toNat / 16))
      bindInput := bindInputStored t input
      bindMode := bindModeStored t mode
      bindDuty := min 1000 duty.toNat } := by
  unfold Profile.writeE
  simp only [clamp_zero]
  split <;> rfl

theorem bindInputStored_eq (t : ChannelType) (input : Byte) : bindInputStored t input =
    if t = .bridge ∨ input = 0 then none else if input = 1 then some .brake
      else if input = 2 then some .hazard else some .reverse := by
  unfold bindInputStored
  rw [inputOfCode_eq]
  by_cases bridge : t = .bridge <;> simp [bridge]

theorem bindModeStored_eq (t : ChannelType) (mode : Byte) : bindModeStored t mode =
    if t ≠ .lamp ∨ mode = 0 then .steady else if mode = 1 then .flash .a else .flash .b := by
  unfold bindModeStored
  rw [modeOfCode_eq]
  by_cases lamp : t = .lamp <;> simp [lamp]

theorem writeF_eq (stall : Half) (stallt braket deadt idle : Byte) (p : Profile) :
    p.writeF stall stallt braket deadt idle = { p with bridge := some {
      stall := min 600 stall.toNat, stallt := max 10 (min 500 (10 * stallt.toNat))
      braket := max 10 (min 500 (10 * braket.toNat)), deadt := max 1 (min 50 deadt.toNat)
      idle := if idle = 0 then .float else .brake } } := by
  unfold Profile.writeF
  simp only [clamp_zero, idleOfCode_eq]
  rfl

theorem lowSidesClosed_iff (s : State) (br : Bridge) : s.lowSidesClosed br = true ↔
    (s.bridge br).st = .idle ∧ (s.bridgeProfile br).idle = .brake ∧ (s.bridge br).rest = none := by
  unfold State.lowSidesClosed
  simp [and_assoc]

/-- Legs that were closed open exactly when the new IDLE is FLOAT (R9, R125). -/
theorem acceptProfileF_eq {s : State} {ch : Ch} {br : Bridge} (bridge : bridgeOf ch = some br) (stall : Half)
    (stallt braket deadt idle : Byte) : s.acceptProfileF ch br stall stallt braket deadt idle =
      if idle = 0 ∧ (s.bridge br).st = .idle ∧ (s.chan ch).profile.bridgeFields.idle = .brake ∧
        (s.bridge br).rest = none
      then (s.store ch ((s.chan ch).profile.writeF stall stallt braket deadt idle)).setBridge br
        { s.bridge br with rest := some 0 }
      else s.store ch ((s.chan ch).profile.writeF stall stallt braket deadt idle) := by
  obtain rfl := bridgeOf_eq_some bridge
  have opens : (s.lowSidesClosed br && !(s.store (bridgeChannel br)
      ((s.chan (bridgeChannel br)).profile.writeF stall stallt braket deadt idle)).lowSidesClosed br) = true ↔
      idle = 0 ∧ (s.bridge br).st = .idle ∧ (s.chan (bridgeChannel br)).profile.bridgeFields.idle = .brake ∧
        (s.bridge br).rest = none := by
    have field : ((s.store (bridgeChannel br)
        ((s.chan (bridgeChannel br)).profile.writeF stall stallt braket deadt idle)).bridgeProfile br).idle =
        if idle = 0 then .float else .brake := by
      unfold State.bridgeProfile
      rw [chan_store_same, writeF_eq]
      rfl
    rw [Bool.and_eq_true, Bool.not_eq_true', ← Bool.not_eq_true, lowSidesClosed_iff, lowSidesClosed_iff, field]
    change (_ ∧ _ ∧ _) ∧ ¬ ((s.bridge br).st = .idle ∧ _ ∧ (s.bridge br).rest = none) ↔ _
    unfold State.bridgeProfile
    by_cases zero : idle = 0#8
    · simp [zero]
    · simp only [show idle ≠ 0 from zero, if_false, false_and, iff_false]
      rintro ⟨⟨st, brake, rest⟩, still⟩
      exact still ⟨st, trivial, rest⟩
  unfold State.acceptProfileF
  exact if_congr opens rfl rfl

/-- INHIBIT entries removed and the combined demand handed over (R4, R43). -/
theorem removeInhibits_recomputed (s : State) (ch : Ch) :
    (∀ y cl, ((s.removeInhibits ch).recomputed ch).slot y cl =
      if y = ch ∧ s.slot y cl = some .inhibit then none else s.slot y cl) ∧
    (∀ y, y ≠ ch → s.SameWish ((s.removeInhibits ch).recomputed ch) y) ∧
    ((s.removeInhibits ch).recomputed ch).groups = s.groups ∧
    ((s.removeInhibits ch).recomputed ch).ports = s.ports ∧
    s.SameBeyondDemands ((s.removeInhibits ch).recomputed ch) := by
  obtain ⟨groups, placed, ports⟩ := groups_removeInhibits s ch
  have chans := chans_removeInhibits s ch
  have handed := only_recomputed (s.removeInhibits ch) ch
  refine ⟨fun y cl => ?_, fun y other => ?_, handed.groups.trans groups, handed.ports.trans ports, ?_⟩
  · rw [← slot_removeInhibits]
    unfold State.slot
    rw [handed.demand]
  · exact SameWish.trans ((handed_of_chans chans).sameWish y) (recompute_sameWish _ _ ch y other)
  · exact sameBeyond_of ((only_removeInhibits s ch).trans handed.toDemand) (handed.placed.trans placed)
      ((handed_of_chans chans).learned.trans (recompute_learned _ _ ch))

theorem heard_groups (s : State) (src : Source) : (s.heard src).groups = s.groups := by
  unfold State.heard State.refresh
  dsimp only
  split <;> rfl

/-- Settles O48. -/
theorem profilesAreWrittenClamped : Obligations.ProfilesAreWrittenClamped := by
  unfold Obligations.ProfilesAreWrittenClamped
  intro port b x y z k h i n m w ch s
  dsimp only
  intro takes named off
  have chan := heard_chan s ⟨port, .service⟩ ch
  refine ⟨fun ranked => ?_, fun zero => ?_, ?_, ?_, ?_, ?_, fun br bridge => ?_⟩
  · refine profile_accepted (fun _ => rfl) takes named off ?_
    rw [acceptProfileA_ranked ranked, State.store, chan]
    rfl
  · have accepts : exec (.profileA ⟨port, .service⟩ b n m h i) s =
        .next (s.accepted ⟨port, .service⟩ fun v => v.acceptProfileA ch n m h i) :=
      profile_accepted (fun _ => rfl) takes named off rfl
    refine ⟨_, accepts.trans (congrArg _ (accepted_eq s _ _)), ?_⟩
    rw [acceptProfileA_zero zero]
    rw [chan]
    have writes : ∀ y, (s.heard ⟨port, .service⟩).SameWish ((s.heard ⟨port, .service⟩).store ch
        ((s.chan ch).profile.scaled (typeOf ch) n m h i).stripInhibit) y := fun y => by
      unfold State.store State.SameWish
      rw [State.chan_setChan]
      split
      next e => rw [e]; exact ⟨rfl, rfl, rfl⟩
      next => exact ⟨rfl, rfl, rfl⟩
    have slots := heard_slot s ⟨port, .service⟩
    obtain ⟨slot, others, groups, ports, beyond⟩ := removeInhibits_recomputed
      ((s.heard ⟨port, .service⟩).store ch ((s.chan ch).profile.scaled (typeOf ch) n m h i).stripInhibit) ch
    have handed := recompute_handedOver (((s.heard ⟨port, .service⟩).store ch
      ((s.chan ch).profile.scaled (typeOf ch) n m h i).stripInhibit).removeInhibits ch) true ch
    unfold State.recomputed at slot others groups ports beyond ⊢
    generalize State.recompute _ true ch = t at slot others groups ports beyond handed ⊢
    refine ⟨fun y cl => ?_, handedOver_ended handed, fun y other => sameWish_ended (SameWish.trans (writes y)
      (others y other)), ?_, ports, rfl, restHanded_handRest _, sameBeyond_ended ?_⟩
    · rw [← slots]
      exact slot y cl
    · exact groups.trans (heard_groups s _)
    · unfold State.store Profile.stripInhibit Profile.scaled at beyond
      simp only [strip_eq, chan] at beyond
      exact beyond
  · refine profile_accepted (fun _ => rfl) takes named off ?_
    rw [acceptProfileB_eq, State.store, chan, writeB_eq]
  · refine profile_accepted (fun _ => rfl) takes named off (writeProfile_heard s _ ch ?_)
    rw [heard_unit]
    exact writeC_eq _ _ _ _ _ _ _
  · refine profile_accepted (fun _ => rfl) takes named off (writeProfile_heard s _ ch ?_)
    exact writeD_eq _ _ _ _
  · refine profile_accepted (fun _ => rfl) takes named off (writeProfile_heard s _ ch ?_)
    rw [writeE_eq, bindInputStored_eq, bindModeStored_eq]
    simp only [strip_eq, rightOfCode_eq]
  · have accepts : exec (.profileF ⟨port, .service⟩ b h x y z k) s =
        .next (s.accepted ⟨port, .service⟩ fun v => v.acceptProfileF ch br h x y z k) := by
      refine accepted_by (fun _ => rfl) takes ((onChannel_named named).trans ?_)
      rw [bridge]
      exact checkProfile_off rfl (by rw [chan]; exact off)
    rw [accepts, accepted_eq, accepted_eq]
    rw [acceptProfileF_eq bridge, State.store, chan, heard_bridge, writeF_eq]

end Sys2Proof.Machine
end

section
/-!
PROOF. What an expiry waits for, and a millisecond on an empty queue (00, "Time and events"; R89, R162).
-/
namespace Sys2Proof.Machine

variable {i : Instr}

/-! ### When an expiry is due -/

theorem windowDue_iff (s : State) (ch : Ch) :
    s.windowDue ch = true ↔ (s.chan ch).st = .ramping ∧ (s.chan ch).window = some 0 := by
  simp [State.windowDue, ranOut_iff]

theorem goodRunDue_iff (s : State) (ch : Ch) : s.goodRunDue ch = true ↔
    (s.chan ch).st = .on ∧ ∃ n, (s.chan ch).goodRun = some n ∧ 10000 ≤ n := by
  simp [State.goodRunDue, reached_iff, goodRunLimit]

theorem startsDue_pos_iff (c : Channel) : 0 < c.startsDue ↔
    (c.st = .ramping ∨ c.st = .on) ∧ ∃ t, c.periodTimer = some t ∧ 0 < t.starts := by
  unfold Channel.startsDue
  rw [← Channel.admitted_iff]
  split
  next h => cases c.periodTimer <;> simp [h]
  next h => simp [h]

theorem timedDue_iff (s : State) (ch : Ch) (cl : Client) : s.timedDue ch cl = true ↔
    match s.slot ch cl with
    | some (.timed _ remaining _) => remaining = 0
    | _ => False := by
  unfold State.timedDue
  cases s.slot ch cl with
  | none => simp
  | some e => cases e <;> simp

theorem silenceDue_iff (s : State) (cl : Client) : s.silenceDue cl = true ↔
    cl ≠ .wired ∧ (s.client cl).st = .active ∧
      ∃ n, (s.client cl).silence = some n ∧ (s.client cl).timeout ≤ n := by
  simp [State.silenceDue, reached_iff, and_assoc]

theorem admitDelayDue_iff (s : State) (ch : Ch) : s.admitDelayDue ch = true ↔
    ∃ e, (s.unit (feedOf ch)).queue.find? (fun e => e.ch = ch) = some e ∧ ∃ n, e.delay = some n ∧ 5000 ≤ n := by
  unfold State.admitDelayDue State.queueEntry
  split
  next e h => simp [h, reached_iff, admitDelayLimit]
  next h => simp [h]

theorem holdDue_iff (s : State) (f : Feed) :
    s.holdDue f = true ↔ ∃ h, (s.unit f).hold = some h ∧ h.remaining = 0 := by
  unfold State.holdDue
  split
  next h e => simp [e]
  next e => simp [e]

theorem shedStepDue_iff (s : State) (f : Feed) : s.shedStepDue f = true ↔
    (s.monitor f).st = .low ∧ ∃ n, (s.monitor f).shedTimer = some n ∧ 200 ≤ n := by
  simp [State.shedStepDue, reached_iff, shedStepLimit]

theorem phaseDue_iff (s : State) (g : Group) (phase : Phase) :
    s.phaseDue g phase = true ↔ (s.group g).phase = phase ∧ (s.group g).timer = some 0 := by
  simp [State.phaseDue, ranOut_iff]

theorem stageDue_iff (s : State) (br : Bridge) (st : BridgeState) :
    s.stageDue br st = true ↔ (s.bridge br).st = st ∧ (s.bridge br).stageTimer = some 0 := by
  simp [State.stageDue, ranOut_iff]

theorem driveDue_iff (s : State) (br : Bridge) :
    s.driveDue br = true ↔ (s.bridge br).st = .drive ∧ (s.bridge br).driveTimer = some 0 := by
  simp [State.driveDue, ranOut_iff]

theorem restDue_iff (s : State) (br : Bridge) : s.restDue br = true ↔
    ∃ n, (s.bridge br).rest = some n ∧ (s.bridgeProfile br).deadt ≤ n := reached_iff _ _

theorem statusDue_iff (s : State) (p : Port) : s.statusDue p = true ↔
    (s.port p).st = .active ∧ ∃ n, (s.port p).statusTimer = some n ∧ (s.port p).interval ≤ n := by
  simp [State.statusDue, reached_iff]

theorem recoveryDue_iff (s : State) (p : Port) : s.recoveryDue p = true ↔
    (s.port p).st = .busOff ∧ ∃ n, (s.port p).recovery = some n ∧ 200 ≤ n := by
  simp [State.recoveryDue, reached_iff, recoveryLimit]

theorem quietReached_iff (s t : State) : quietReached s t = true ↔
    (∃ n, t.quiet = some n ∧ 5000 ≤ n) ∧ ¬ ∃ n, s.quiet = some n ∧ 5000 ≤ n := by
  unfold quietReached
  rw [Bool.and_eq_true, Bool.not_eq_true', ← Bool.not_eq_true, reached_iff, reached_iff, and_comm]
  rfl

/-! ### The expiries of a millisecond -/

/-- The expiry that the command names is due. -/
def ExpiryDue (before after : State) : Instr → Prop
  | .inrushWindowExpiry ch => after.windowDue ch = true
  | .goodRunTimerExpiry ch => after.goodRunDue ch = true
  | .periodStart ch => 0 < (after.chan ch).startsDue
  | .timedExpiry ch cl => after.timedDue ch cl = true
  | .silenceExpiry cl => after.silenceDue cl = true
  | .admitDelay ch => after.admitDelayDue ch = true
  | .holdExpiry f => after.holdDue f = true
  | .shedStep f => after.shedStepDue f = true
  | .onPhaseEnd g => after.phaseDue g .onPhase = true
  | .offPhaseEnd g => after.phaseDue g .offPhase = true
  | .deadBeforeDriveExpiry br => after.stageDue br (.dead .beforeDrive) = true
  | .deadBeforeBrakeExpiry br => after.stageDue br (.dead .beforeBrake) = true
  | .brakeExpiry br => after.stageDue br .brake = true
  | .deadAfterBrakeExpiry br => after.stageDue br (.dead .afterBrake) = true
  | .driveTimerExpiry br => after.driveDue br = true
  | .restTimerExpiry br => after.restDue br = true
  | .statusRound p => after.statusDue p = true
  | .busRecovery p => after.recoveryDue p = true
  | .sleepEntry => quietReached before after = true
  | _ => False

theorem expiryDue_iff (s t : State) (c : Instr) : ExpiryDue s t c ↔ FallsDue s t c := by
  cases c with
  | inrushWindowExpiry ch => exact windowDue_iff t ch
  | goodRunTimerExpiry ch => exact goodRunDue_iff t ch
  | periodStart ch => exact startsDue_pos_iff _
  | timedExpiry ch cl => exact timedDue_iff t ch cl
  | silenceExpiry cl => exact silenceDue_iff t cl
  | admitDelay ch => exact admitDelayDue_iff t ch
  | holdExpiry f => exact holdDue_iff t f
  | shedStep f => exact shedStepDue_iff t f
  | onPhaseEnd g => exact phaseDue_iff t g _
  | offPhaseEnd g => exact phaseDue_iff t g _
  | deadBeforeDriveExpiry br => exact stageDue_iff t br _
  | deadBeforeBrakeExpiry br => exact stageDue_iff t br _
  | brakeExpiry br => exact stageDue_iff t br _
  | deadAfterBrakeExpiry br => exact stageDue_iff t br _
  | driveTimerExpiry br => exact driveDue_iff t br
  | restTimerExpiry br => exact restDue_iff t br
  | statusRound p => exact statusDue_iff t p
  | busRecovery p => exact recoveryDue_iff t p
  | sleepEntry => exact quietReached_iff s t
  | _ => exact Iff.rfl

theorem mem_channelDue (s : State) (ch : Ch) (c : Instr) : c ∈ s.channelDue ch ↔
    (s.windowDue ch = true ∧ c = .inrushWindowExpiry ch) ∨ (s.goodRunDue ch = true ∧ c = .goodRunTimerExpiry ch) ∨
      (0 < (s.chan ch).startsDue ∧ c = .periodStart ch) := by
  simp only [State.channelDue, List.mem_append, mem_ifDue, List.mem_replicate, Nat.pos_iff_ne_zero, or_assoc]
  
theorem mem_bothFeeds (s : State) (c : Instr) : c ∈ s.feedDue .a ++ s.feedDue .b ↔
    ∃ f, (s.holdDue f = true ∧ c = .holdExpiry f) ∨ (s.shedStepDue f = true ∧ c = .shedStep f) := by
  rw [exists_side]
  simp only [State.feedDue, List.mem_append, mem_ifDue]

theorem mem_bothGroups (s : State) (c : Instr) : c ∈ s.groupDue .a ++ s.groupDue .b ↔
    ∃ g, (s.phaseDue g .onPhase = true ∧ c = .onPhaseEnd g) ∨ (s.phaseDue g .offPhase = true ∧ c = .offPhaseEnd g) := by
  rw [exists_side]
  simp only [State.groupDue, List.mem_append, mem_ifDue]

theorem mem_bothBridges (s : State) (c : Instr) : c ∈ s.bridgeDue .a ++ s.bridgeDue .b ↔
    ∃ br, (s.stageDue br (.dead .beforeDrive) = true ∧ c = .deadBeforeDriveExpiry br) ∨
      (s.driveDue br = true ∧ c = .driveTimerExpiry br) ∨
      (s.stageDue br (.dead .beforeBrake) = true ∧ c = .deadBeforeBrakeExpiry br) ∨
      (s.stageDue br .brake = true ∧ c = .brakeExpiry br) ∨
      (s.stageDue br (.dead .afterBrake) = true ∧ c = .deadAfterBrakeExpiry br) ∨
      (s.restDue br = true ∧ c = .restTimerExpiry br) := by
  rw [exists_side]
  simp only [State.bridgeDue, List.mem_append, mem_ifDue, or_assoc]

theorem mem_linksDue (s : State) (c : Instr) :
    c ∈ s.linksDue ↔ ∃ p, s.recoveryDue p = true ∧ c = .busRecovery p := by
  rw [exists_side]
  simp only [State.linksDue, List.mem_append, mem_ifDue]

theorem mem_activeDue (s : State) (c : Instr) : c ∈ s.activeDue ↔
    (∃ ch, c ∈ s.channelDue ch) ∨ (∃ ch cl, s.timedDue ch cl = true ∧ c = .timedExpiry ch cl) ∨
    (∃ cl, s.silenceDue cl = true ∧ c = .silenceExpiry cl) ∨
    (∃ ch, s.admitDelayDue ch = true ∧ c = .admitDelay ch) ∨
    c ∈ s.feedDue .a ++ s.feedDue .b ∨ c ∈ s.groupDue .a ++ s.groupDue .b ∨ c ∈ s.bridgeDue .a ++ s.bridgeDue .b ∨
    ∃ p, s.statusDue p = true ∧ c = .statusRound p := by
  rw [exists_side]
  simp only [State.activeDue, List.mem_append, List.mem_flatMap, mem_ifDue, mem_allChannels, mem_allClients, true_and,
    or_assoc, Prod.exists, mem_allSlots]

/-- The queue after a millisecond of an ACTIVE part holds the expiries that are due, and no other command. -/
theorem mem_due_iff (s t : State) (c : Instr) :
    c ∈ t.activeDue ++ t.linksDue ++ ifDue (quietReached s t) .sleepEntry ↔ ExpiryDue s t c := by
  rw [List.mem_append, List.mem_append, mem_activeDue, mem_bothFeeds, mem_bothGroups, mem_bothBridges, mem_linksDue,
    mem_ifDue]
  simp only [mem_channelDue]
  cases c <;> simp [ExpiryDue]

/-! ### The records after a millisecond -/

theorem tick_running {s : State} (h : s.Running) : s.tick = { s.tickActive.tickLinks with
    pending := s.tickActive.tickLinks.activeDue ++ s.tickActive.tickLinks.linksDue ++
      ifDue (quietReached s s.tickActive.tickLinks) .sleepEntry } := by
  unfold State.tick
  rw [if_pos h.1, h.2]

theorem tick_sleeping {s : State} (on : s.powered = true) (asleep : s.part = .sleep) :
    s.tick = { s.tickLinks with pending := s.tickLinks.linksDue } := by
  unfold State.tick
  rw [if_pos on, asleep]

theorem tick_off {s : State} (off : s.powered = false) : s.tick = s := by
  unfold State.tick
  exact if_neg (by simp [off])

theorem step_empty {s : State} (h : s.pending = []) : step s = .next s.tick := by
  unfold step
  rw [h]

theorem slot_tickActive (s : State) (ch : Ch) (cl : Client) :
    s.tickActive.slot ch cl = (s.slot ch cl).map Entry.tick := by
  unfold State.slot State.tickActive
  rw [mapChannels_get]
  exact PerClient.get_map _ _ _

theorem chan_tickActive (s : State) (ch : Ch) : s.tickActive.chan ch = (s.chan ch).tick (s.conducts ch) := by
  simp [State.chan, State.tickActive]

/-- The port's timers after a millisecond; of the receive error count nothing is said (log 7). -/
theorem port_tickLinks (s : State) (p : Port) : s.tickLinks.port p = { s.port p with
    recovery := (s.port p).recovery.map fun n => min 200 (n + 1)
    rxErrors := (s.tickLinks.port p).rxErrors } := by
  rw [← countUp_eq_map]
  cases p <;> rfl

theorem ClientRecord.tick_eq (r : ClientRecord) : r.tick = { r with
    silence := r.silence.map fun n => min r.timeout (n + 1) } := by
  rw [← countUp_eq_map]
  rfl

theorem Admission.tick_eq (u : Admission) : u.tick = { u with
    queue := u.queue.map fun e => { e with delay := e.delay.map fun n => min 5000 (n + 1) }
    hold := u.hold.map fun h => { h with remaining := h.remaining - 1 } } := by
  simp only [← countUp_eq_map]
  rfl

theorem Monitor.tick_eq (m : Monitor) : m.tick = { m with
    shedTimer := m.shedTimer.map fun n => min 200 (n + 1) } := by
  rw [← countUp_eq_map]
  rfl

theorem FlashGroup.tick_eq (r : FlashGroup) : r.tick = { r with timer := r.timer.map fun n => n - 1 } := by
  rw [← countDown_eq_map]
  rfl

theorem BridgeRecord.tick_eq (deadt : Nat) (r : BridgeRecord) : r.tick deadt = { r with
    stageTimer := r.stageTimer.map fun n => n - 1
    driveTimer := r.driveTimer.map fun n => n - 1
    driven := if r.st = .drive then r.driven + 1 else r.driven
    rest := r.rest.map fun n => min deadt (n + 1) } := by
  rw [← countDown_eq_map, ← countDown_eq_map, ← countUp_eq_map]
  rfl

theorem bridge_tickActive (s : State) (br : Bridge) :
    s.tickActive.bridge br = (s.bridge br).tick (s.bridgeProfile br).deadt := by cases br <;> rfl

theorem port_tickActive_tickLinks (s : State) (p : Port) : s.tickActive.tickLinks.port p = { s.port p with
    statusTimer := (s.port p).statusTimer.map fun n => min (s.port p).interval (n + 1)
    recovery := (s.port p).recovery.map fun n => min 200 (n + 1)
    rxErrors := (s.tickActive.tickLinks.port p).rxErrors } := by
  have status : s.tickActive.port p = (s.port p).tickStatus := Pair.get_map _ _ p
  rw [← countUp_eq_map]
  conv_lhs => rw [port_tickLinks, status]
  rfl

/-- What falls due is read off the timers, not off the queue. -/
theorem fallsDue_pending (s t : State) (q : List Instr) (c : Instr) :
    FallsDue s { t with pending := q } c ↔ FallsDue s t c := by
  cases c <;> exact Iff.rfl

/-- Settles O2. -/
theorem millisecondsPassOnAnEmptyQueue : Obligations.MillisecondsPassOnAnEmptyQueue := by
  unfold Obligations.MillisecondsPassOnAnEmptyQueue
  refine ⟨fun s empty => ⟨fun off => ?_, fun on asleep => ?_, fun running => ?_⟩, fun s t empty hstep =>
    ⟨fun running c => ?_, fun on asleep c => ?_⟩⟩
  · rw [step_empty empty, tick_off off]
  · refine ⟨_, (step_empty empty).trans (congrArg _ (tick_sleeping on asleep)), ⟨_, _, _, _, rfl⟩, fun p => ?_⟩
    exact port_tickLinks s p
  · rw [step_empty empty, tick_running running]
    generalize s.tickActive.tickLinks.activeDue ++ s.tickActive.tickLinks.linksDue ++
      ifDue (quietReached s s.tickActive.tickLinks) .sleepEntry = q
    refine ⟨_, rfl, rfl, rfl, rfl, rfl, rfl, rfl, rfl, countUp_eq_map _ _,
      fun ch => ?_, fun ch cl => ?_, fun cl => ?_, fun f => ?_, fun f => ?_, fun g => ?_, fun br => ?_, fun p => ?_⟩
    · refine (chan_tickActive s ch).trans ?_
      unfold Channel.tick
      rw [countUp_eq_map, countDown_eq_map]
      rfl
    · refine (slot_tickActive s ch cl).trans ?_
      cases s.slot ch cl with
      | none => rfl
      | some e => cases e <;> rfl
    · exact (PerClient.get_map _ _ cl).trans (ClientRecord.tick_eq _)
    · exact (Pair.get_map _ _ f).trans (Admission.tick_eq _)
    · exact (Pair.get_map _ _ f).trans (Monitor.tick_eq _)
    · exact (Pair.get_map _ _ g).trans (FlashGroup.tick_eq _)
    · exact (bridge_tickActive s br).trans (BridgeRecord.tick_eq _ _)
    · exact port_tickActive_tickLinks s p
  · rw [step_empty empty, tick_running running] at hstep
    cases hstep
    rw [mem_due_iff]
    exact (expiryDue_iff s _ c).trans (fallsDue_pending s _ _ c).symm
  · rw [step_empty empty, tick_sleeping on asleep] at hstep
    cases hstep
    rw [mem_linksDue]
    simp only [recoveryDue_iff]
    exact exists_congr fun p => and_comm

end Sys2Proof.Machine
end

section
/-!
PROOF. Link ports: status rounds, reads and departures, bus-off and recovery (R146, R149 to R155).
-/
namespace Sys2Proof.Machine

variable {i : Instr}

/-! ### A port's record -/

@[simp] theorem State.setPort_setPort (s : State) (p : Port) (r r' : PortRecord) :
    (s.setPort p r).setPort p r' = s.setPort p r' := by cases p <;> rfl

theorem State.setPort_self (s : State) (p : Port) : s.setPort p (s.port p) = s := by cases p <;> rfl

theorem summaryFrame_setPort (s : State) (p : Port) {r : PortRecord} (h : r.lost = (s.port p).lost) :
    (s.setPort p r).summaryFrame p = s.summaryFrame p := by
  unfold State.summaryFrame
  rw [State.port_setPort_same, h]
  rfl

theorem detailFrames_congr {s t : State} (zone : t.zone = s.zone) (ch : Ch) (chan : t.chan ch = s.chan ch) :
    t.detailFrames ch = s.detailFrames ch := by
  unfold State.detailFrames
  rw [zone, chan]

/-! ### Status rounds (R149) -/

/-- Status frames enter an ACTIVE port one after another, as many as there are free slots. -/
theorem foldl_offerStatus (l : List TxFrame) (r : PortRecord) (active : r.st = .active) :
    l.foldl PortRecord.offerStatus r = { r with queue := r.queue ++ l.take (12 - r.queue.length) } := by
  induction l generalizing r with
  | nil => simp
  | cons t l ih =>
    rw [List.foldl_cons]
    by_cases room : r.queue.length < 12
    · have enters : r.offerStatus t = { r with queue := r.queue ++ [t] } := if_pos ⟨active, room⟩
      have slots : 12 - r.queue.length = (12 - (r.queue ++ [t]).length) + 1 := by
        rw [List.length_append, List.length_singleton]; omega
      rw [enters, ih { r with queue := r.queue ++ [t] } active, slots, List.take_succ_cons, List.append_assoc]
      rfl
    · have full : r.offerStatus t = r := if_neg fun h => room h.2
      rw [full, ih r active]
      simp [Nat.sub_eq_zero_of_le (Nat.not_lt.mp room)]

/-- A round with room for its SUMMARY, which takes the flag with it (R148). -/
theorem foldl_offerStatus_summary (summary : TxFrame) (l : List TxFrame) (r : PortRecord) (active : r.st = .active)
    (room : r.queue.length < 12) :
    l.foldl PortRecord.offerStatus { r with queue := r.queue ++ [summary], lost := false } =
      { r with queue := r.queue ++ (summary :: l).take (12 - r.queue.length), lost := false } := by
  have slots : 12 - r.queue.length = (12 - (r.queue ++ [summary]).length) + 1 := by
    rw [List.length_append, List.length_singleton]; omega
  rw [foldl_offerStatus l { r with queue := r.queue ++ [summary], lost := false } active, slots, List.take_succ_cons,
    List.append_assoc]
  rfl

/-- The eight CHANNEL STATUS frames in the order of a status round. -/
def State.statusFrames (s : State) : List TxFrame :=
  statusLayout.map fun x => s.statusFrame x.1 x.2.1 x.2.2

theorem statusRound_eq (s : State) (p : Port) : s.statusRound p =
    (s.offerSummary p).setPort p (s.statusFrames.foldl PortRecord.offerStatus ((s.offerSummary p).port p)) := by
  have fold : ∀ (l : List (Nat × Ch × Ch)) (t : State), (∀ x ∈ l, t.statusFrame x.1 x.2.1 x.2.2 =
      s.statusFrame x.1 x.2.1 x.2.2) →
      l.foldl (fun s x => s.setPort p ((s.port p).offerStatus (s.statusFrame x.1 x.2.1 x.2.2))) t =
        t.setPort p ((l.map fun x => s.statusFrame x.1 x.2.1 x.2.2).foldl PortRecord.offerStatus (t.port p)) := by
    intro l
    induction l with
    | nil => exact fun t _ => (t.setPort_self p).symm
    | cons x l ih =>
      intro t same
      obtain ⟨here, rest⟩ := List.forall_mem_cons.mp same
      rw [List.foldl_cons, ih (t.setPort p ((t.port p).offerStatus (t.statusFrame x.1 x.2.1 x.2.2))) rest, here,
        State.port_setPort_same, State.setPort_setPort]
      rfl
  refine fold statusLayout (s.offerSummary p) fun x _ => ?_
  rw [only_offerSummary s p]
  rfl

/-- A status round on an ACTIVE port (R148, R149). -/
theorem statusRound_active {s : State} {p : Port} (active : (s.port p).st = .active) : s.statusRound p =
    s.setPort p { s.port p with
      queue := (s.port p).queue ++ (s.summaryFrame p :: s.statusFrames).take (12 - (s.port p).queue.length)
      lost := if (s.port p).queue.length < 12 then false else (s.port p).lost } := by
  rw [statusRound_eq]
  by_cases room : (s.port p).queue.length < 12
  · have enters : s.offerSummary p = s.setPort p { s.port p with
        queue := (s.port p).queue ++ [s.summaryFrame p], lost := false } := if_pos ⟨active, room⟩
    rw [enters, State.setPort_setPort, State.port_setPort_same, if_pos room]
    exact congrArg (s.setPort p) (foldl_offerStatus_summary _ _ _ active room)
  · have full : s.offerSummary p = s := if_neg fun h => room h.2
    rw [full, foldl_offerStatus _ _ active, if_neg room, Nat.sub_eq_zero_of_le (Nat.not_lt.mp room), List.take_zero,
      List.take_zero]

/-- The status timer from 0 and a round at once, on an ACTIVE port. -/
theorem restartStatus_active {s : State} {p : Port} (active : (s.port p).st = .active) : s.restartStatus p =
    s.setPort p { s.port p with
      queue := (s.port p).queue ++ (s.summaryFrame p :: s.statusFrames).take (12 - (s.port p).queue.length)
      statusTimer := some 0
      lost := if (s.port p).queue.length < 12 then false else (s.port p).lost } := by
  unfold State.restartStatus
  rw [statusRound_active (by rw [State.port_setPort_same]; exact active), State.setPort_setPort,
    State.port_setPort_same, summaryFrame_setPort s p (by rfl)]
  rfl

/-! ### Reads (R152, R153) -/

/-- A port's record after the check of its pending read. -/
def PortRecord.served (s : State) (v : PortRecord) : PortRecord :=
  match v.read with
  | some x => if v.queue.length ≤ 9 then { v with queue := v.queue ++ s.detailFrames x, read := none } else v
  | none => v

theorem PortRecord.served_of_none {s : State} {v : PortRecord} (h : v.read = none) : v.served s = v := by
  unfold PortRecord.served; rw [h]

theorem PortRecord.served_of_some {s : State} {v : PortRecord} {x : Ch} (h : v.read = some x) : v.served s =
    if v.queue.length ≤ 9 then { v with queue := v.queue ++ s.detailFrames x, read := none } else v := by
  unfold PortRecord.served; rw [h]

theorem checkRead_active {s : State} {p : Port} (active : (s.port p).st = .active) :
    s.checkRead p = s.setPort p ((s.port p).served s) := by
  unfold State.checkRead
  dsimp only
  split
  next e => rw [PortRecord.served_of_none e, s.setPort_self]
  next ch e =>
    rw [PortRecord.served_of_some e]
    split
    next h =>
      have room : (s.port p).queue.length ≤ 9 := by
        have free := h.2
        unfold PortRecord.free queueSlots at free
        omega
      rw [if_pos room]
    next h =>
      have full : ¬ (s.port p).queue.length ≤ 9 := fun room => h ⟨active, by
        unfold PortRecord.free queueSlots
        omega⟩
      rw [if_neg full, s.setPort_self]

theorem served_congr {s t : State} (h : ∀ ch, t.detailFrames ch = s.detailFrames ch) (v : PortRecord) :
    v.served t = v.served s := by
  unfold PortRecord.served
  split
  · rw [h]
  · rfl

theorem detailFrames_setPort (s : State) (p : Port) (r : PortRecord) (ch : Ch) :
    (s.setPort p r).detailFrames ch = s.detailFrames ch := rfl

theorem departure_active {s : State} {p : Port} {head : TxFrame} {rest : List TxFrame}
    (active : (s.port p).st = .active) (queue : (s.port p).queue = head :: rest) : s.departure p =
      s.setPort p (PortRecord.served s { s.port p with queue := rest, txErrors := (s.port p).txErrors - 1 }) := by
  unfold State.departure
  dsimp only
  rw [queue]
  dsimp only
  rw [if_pos active, checkRead_active (by rw [State.port_setPort_same]; exact active), State.setPort_setPort,
    State.port_setPort_same, served_congr (detailFrames_setPort s p _)]

theorem completeRead_room {s : State} {p : Port} {x : Ch} (active : (s.port p).st = .active)
    (reads : (s.port p).read = some x) (room : (s.port p).queue.length ≤ 9) : State.completeRead p s =
      s.setPort p { s.port p with queue := (s.port p).queue ++ s.detailFrames x, read := none } := by
  unfold State.completeRead
  dsimp only
  rw [if_neg (by simp [active, reads]), if_pos (by unfold PortRecord.free queueSlots; omega), checkRead_active active,
    PortRecord.served_of_some reads]
  exact congrArg (s.setPort p) (if_pos room)

theorem completeRead_departs {s : State} {p : Port} {x : Ch} {head : TxFrame} {rest : List TxFrame}
    (active : (s.port p).st = .active) (queue : (s.port p).queue = head :: rest) (reads : (s.port p).read = some x)
    (full : 9 < (s.port p).queue.length) (room : rest.length ≤ 9) : State.completeRead p s =
      s.setPort p { s.port p with
        queue := rest ++ s.detailFrames x, read := none, txErrors := (s.port p).txErrors - 1 } := by
  have length : (s.port p).queue.length ≤ 10 := by rw [queue, List.length_cons]; omega
  unfold State.completeRead
  dsimp only
  rw [if_neg (by simp [active, reads]), if_neg (by unfold PortRecord.free queueSlots; omega), if_pos length,
    departure_active active queue]
  exact congrArg (s.setPort p) ((PortRecord.served_of_some (v := { s.port p with
    queue := rest, txErrors := (s.port p).txErrors - 1 }) reads).trans (if_pos room))

theorem heard_zone (s : State) (src : Source) : (s.heard src).zone = s.zone :=
  (only_refresh s src.client src.port).zone

theorem detailFrames_heard (s : State) (src : Source) (ch : Ch) :
    (s.heard src).detailFrames ch = s.detailFrames ch :=
  detailFrames_congr (heard_zone s src) ch (heard_chan s src ch)

/-- The refresh of a sender offers at most an event to a port. -/
theorem heard_port (s : State) (src : Source) (p : Port) : ∃ queue lost,
    (s.heard src).port p = { s.port p with queue := queue, lost := lost } := by
  unfold State.heard State.refresh
  dsimp only
  split
  · rw [offerEvent_port]
    unfold PortRecord.offer
    split
    · exact ⟨_, _, rfl⟩
    · exact ⟨_, _, rfl⟩
  · exact ⟨_, _, rfl⟩

/-- Settles O50. -/
theorem statusRoundsAndReads : Obligations.StatusRoundsAndReads := by
  unfold Obligations.StatusRoundsAndReads
  refine ⟨fun p port b time n s => ?_, fun src b ch p head rest s => ?_⟩
  · dsimp only
    refine ⟨restartStatus_active, fun running active timer ended => ?_, fun takes named early => ?_,
      fun takes named late => ?_⟩
    · exact congrArg Host.Outcome.next
        (run_due s _ _ running ((statusDue_iff s p).mpr ⟨active, n, timer, ended⟩))
    all_goals
      refine accepted_by (fun _ => rfl) takes ?_
      unfold judgeStatusCfg
      rw [sideOfByte_eq_some.mpr named]
      refine (check_pass rfl).trans (congrArg Verdict.accept ?_)
      obtain ⟨queue, lost, heard⟩ := heard_port s ⟨port, .service⟩ p
    · exact if_neg fun h => early ((reached_iff _ _).mp (by rw [heard] at h; exact h))
    · exact if_pos (by rw [heard]; exact (reached_iff _ _).mpr late)
  · dsimp only
    refine ⟨fun takes named none => ?_, fun on active queue => ⟨?_, fun x reads full room => ?_, fun x reads room => ?_⟩⟩
    · refine accepted_by (fun _ => rfl) takes ((onChannel_named named).trans ((check_pass ?_).trans
        (congrArg Verdict.accept ?_)))
      · rw [heard_read]; simpa using none
      · obtain ⟨q, lost, heard⟩ := heard_port s src src.port
        rw [checkRead_active (by rw [State.port_setPort_same, heard]; exact takes.2.1), State.setPort_setPort,
          State.port_setPort_same, served_congr (detailFrames_setPort _ _ _), served_congr (detailFrames_heard s src)]
        rfl
    · refine congrArg Host.Outcome.next ((run_on s _ on).trans ?_)
      rw [departure_active active queue]
      rfl
    · refine congrArg Host.Outcome.next ((run_on s _ on).trans ?_)
      rw [completeRead_departs active queue reads full room]
    · refine congrArg Host.Outcome.next ((run_on s _ on).trans ?_)
      rw [completeRead_room active reads room]

end Sys2Proof.Machine
end

section
/-!
PROOF. Bus-off and recovery (R146, R154, R155), SLEEP, wake, and the intake of raw frames (R142 to R145, R161 to
R163).
-/
namespace Sys2Proof.Machine

variable {i : Instr}

/-! ### Bus-off (R154, R155) -/

theorem summaryWithFlag_eq (f : TxFrame) : f.summaryWithFlag =
    (decide (f.id.toNat % 16 = 0) && decide ((f.data.headD 0).toNat % 2 = 1)) := by
  unfold TxFrame.summaryWithFlag TxFrame.offset
  cases f.data <;> simp

theorem isMessage_eq (f : TxFrame) : f.isMessage =
    decide (f.id.toNat % 16 = 9 ∨ f.id.toNat % 16 = 10 ∨ f.id.toNat % 16 = 11) := by
  unfold TxFrame.isMessage TxFrame.offset
  rw [← Bool.decide_and]
  exact decide_eq_decide.mpr (by omega)

theorem goBusOff_eq (r : PortRecord) (n : Nat) : ({ r with txErrors := n } : PortRecord).goBusOff = { r with
    st := .busOff, queue := [], read := none, statusTimer := none, recovery := some 0, txErrors := 0, rxErrors := 0
    lost := r.lost || r.queue.any fun f =>
      decide (f.id.toNat % 16 = 9 ∨ f.id.toNat % 16 = 10 ∨ f.id.toNat % 16 = 11) ||
        (decide (f.id.toNat % 16 = 0) && decide ((f.data.headD 0).toNat % 2 = 1)) } := by
  unfold PortRecord.goBusOff PortRecord.lostAtBusOff
  simp only [isMessage_eq, summaryWithFlag_eq]

theorem transmitError_eq {s : State} {p : Port} (active : (s.port p).st = .active) (sends : (s.port p).queue ≠ []) :
    s.transmitError p = s.setPort p (if 255 < (s.port p).txErrors + 8
      then ({ s.port p with txErrors := (s.port p).txErrors + 8 } : PortRecord).goBusOff
      else { s.port p with txErrors := (s.port p).txErrors + 8 }) := if_pos ⟨active, sends⟩

/-- Settles O51. -/
theorem busOffAndRecovery : Obligations.BusOffAndRecovery := by
  unfold Obligations.BusOffAndRecovery
  intro p n s on
  dsimp only
  refine ⟨fun active sends low => ?_, fun active sends high => ⟨?_, ?_⟩, fun off timer => ⟨?_, fun ended =>
    ⟨fun awake => ?_, fun asleep => ?_⟩⟩⟩
  · refine congrArg Host.Outcome.next ((run_on s _ on).trans (congrArg _ ?_))
    rw [transmitError_eq active sends, if_neg (Nat.not_lt.mpr low)]
  · refine congrArg Host.Outcome.next ((run_event s _ _ on (decide_eq_true high)).trans (congrArg _ ?_))
    rw [transmitError_eq active sends, if_pos high, goBusOff_eq]
  · refine congrArg Host.Outcome.next ((run_on s _ on).trans (congrArg _ ?_))
    rw [transmitError_eq active sends, if_pos high, goBusOff_eq]
  · refine congrArg Host.Outcome.next ((run_on s _ on).trans (congrArg _ ?_))
    refine (if_pos off).trans ?_
    rw [timer]
    rfl
  all_goals
    refine congrArg Host.Outcome.next
      ((run_event s _ _ on ((recoveryDue_iff s p).mpr ⟨off, n, timer, ended⟩)).trans (congrArg _ ?_))
    unfold State.recoverPort
  · rw [awake]
  · rw [asleep]

/-! ### SLEEP (R161) -/

theorem atRest_iff (c : Channel) : c.atRest = true ↔
    (c.st = .off ∨ c.st = .locked) ∧ c.q ≤ c.profile.rated * c.profile.rated * 64 := by
  unfold Channel.atRest Channel.lrestart
  simp only [Bool.and_eq_true, Bool.or_eq_true, decide_eq_true_eq]

theorem restBegan_iff (before after : State) : restBegan before after.handRest = true ↔
    (∃ p, before.restIn.get p = true ∧ after.level p = false) ∨
      ∃ ch : Ch, before.restCh[ch] = false ∧ (after.chan ch).atRest = true := by
  have handed : ∀ ch : Ch, after.handRest.restCh[ch] = (after.chan ch).atRest := fun ch => mapChannels_get _ _ _
  rw [exists_pin]
  unfold restBegan
  simp only [Bool.or_eq_true, Bool.and_eq_true, Bool.not_eq_true', List.any_eq_true, mem_allChannels, true_and, handed,
    or_assoc]
  exact Iff.rfl

theorem sleepReady_handRest_iff (s : State) : s.handRest.sleepReady = true ↔
    (∀ p, s.level p = false) ∧ (∀ ch, (s.chan ch).atRest = true) ∧ s.quiet = some 5000 := by
  have handed : ∀ ch : Ch, s.handRest.restCh[ch] = (s.chan ch).atRest := fun ch => mapChannels_get _ _ _
  rw [sleepReady_iff, forall_pin]
  simp only [handed]
  unfold State.handRest
  simp only [PerPin.mk.injEq]

theorem enterSleep_eq (s : State) : s.enterSleep = { s with
    part := .sleep
    quiet := none
    adm := ⟨{ s.adm.a with hold := none }, { s.adm.b with hold := none }⟩
    mon := ⟨{ s.mon.a with shedTimer := none, restoreTimer := none },
            { s.mon.b with shedTimer := none, restoreTimer := none }⟩
    clients := ⟨{ s.clients.wired with silence := none }, { s.clients.body with silence := none },
                { s.clients.engine with silence := none }, { s.clients.climate with silence := none },
                { s.clients.service with silence := none }⟩
    ports := ⟨{ s.ports.a with statusTimer := none }, { s.ports.b with statusTimer := none }⟩ } := rfl

theorem handRest_of_handed {s : State} (h : s.RestHanded) : s.handRest = s := by
  unfold State.handRest
  rw [← h.1, ← h.2]

/-- A part that sleeps enters no SLEEP. -/
theorem settle_of_sleep (before : State) {s : State} (h : s.part = .sleep) : State.settle before s = s.handRest :=
  if_neg fun ⟨active, _⟩ => absurd (h.symm.trans active) (by decide)

/-- Settles O6. -/
theorem sleepIsEnteredAtRest : Obligations.SleepIsEnteredAtRest := by
  unfold Obligations.SleepIsEnteredAtRest
  refine ⟨fun before after => ?_, fun s running handed levels rests quiet => ?_⟩
  · have entered : (after.handRest.part = .active ∧ restBegan before after.handRest = true ∧
        after.handRest.sleepReady = true) ↔ _ :=
      and_congr Iff.rfl (and_congr (restBegan_iff before after) (sleepReady_handRest_iff after))
    have pins : ∀ p, (⟨after.level .brake, after.level .hazard, after.level .reverse, after.level .key⟩ :
        PerPin Bool).get p = after.level p := fun p => by cases p <;> rfl
    dsimp only
    simp only [pins]
    refine ⟨fun stays => if_neg fun enters => stays (entered.mp enters), fun enters => ?_, atRest_iff⟩
    exact (if_pos (entered.mpr enters)).trans (enterSleep_eq _)
  · have ready : s.sleepReady = true := by
      refine (sleepReady_iff s).mpr ⟨levels, fun ch => ?_, quiet⟩
      rw [handed.1, mapChannels_get]
      exact rests ch
    refine congrArg Host.Outcome.next ((run_due s _ _ running ready).trans ?_)
    rw [settle_of_sleep s (by rfl), handRest_of_handed (s := s.enterSleep) handed, enterSleep_eq]

end Sys2Proof.Machine
end

section
/-!
PROOF. The wake (R163), and the intake of frames on an ACTIVE and on a BUS_OFF port (R142 to R145, R155).
-/
namespace Sys2Proof.Machine

variable {i : Instr}

/-! ### The wake (R163) -/

/-- The wake before the ports make their rounds. -/
def State.woken (s : State) : State :=
  { s with
    part := .active
    quiet := some 0
    chans := mapChannels Channel.wake s.chans
    mon := s.mon.map Monitor.wake
    clients := wakeClients s.clients }

theorem only_wakePort (s : State) (p : Port) : OnlyPorts s (s.wakePort p) := by
  unfold State.wakePort
  split
  · exact only_restartStatus s p
  · exact .refl s

theorem only_wakeUp (s : State) : OnlyPorts s.woken s.wakeUp :=
  (only_wakePort s.woken .a).trans (only_wakePort _ .b)

theorem awake_of_sleep {s : State} (h : s.part = .sleep) : s.awake = s.wakeUp := by
  unfold State.awake
  rw [h]

theorem wakeUp_active (s : State) : s.wakeUp.part = .active := (only_wakeUp s).toBlocks.part

theorem wakeUp_awake (s : State) : s.wakeUp.awake = s.wakeUp := awake_of_active _ (wakeUp_active s)

theorem chan_wakeUp (s : State) (ch : Ch) : s.wakeUp.chan ch = { s.chan ch with conducted := false } := by
  rw [(only_wakeUp s).chan]
  exact mapChannels_get _ _ _

theorem restHanded_wakeUp {s : State} (h : s.RestHanded) : s.wakeUp.RestHanded :=
  restHanded_of h (fun ch => by rw [chan_wakeUp]; rfl) (only_wakeUp s).toBlocks.restCh (only_wakeUp s).toBlocks.restIn
    (only_wakeUp s).toBlocks.pins

/-- A wake starts the quiet timer, so that the end of its command enters no SLEEP. -/
theorem settle_wakeUp {s : State} (h : s.RestHanded) : State.settle s s.wakeUp = s.wakeUp := by
  have handed : s.wakeUp.handRest = s.wakeUp := handRest_of_handed (restHanded_wakeUp h)
  refine (if_neg fun ⟨_, _, ready⟩ => ?_).trans handed
  obtain ⟨-, -, quiet⟩ := (sleepReady_iff _).mp ready
  rw [handed, (only_wakeUp s).toBlocks.quiet] at quiet
  exact absurd (Option.some.inj quiet) (by decide)

/-! ### The frames of a status round -/

/-- The nine frames of a status round. -/
def State.roundFrames (s : State) (p : Port) : List TxFrame := s.summaryFrame p :: s.statusFrames

theorem roundFrames_ids (s : State) (p : Port) :
    (s.roundFrames p).map TxFrame.id = (List.range 9).map (reportId s.zone) := rfl

theorem id_roundFrames (s : State) (p : Port) (k : Nat) (h : k < (s.roundFrames p).length) :
    ((s.roundFrames p)[k]).id = reportId s.zone k := by
  have ids := roundFrames_ids s p
  have here : ((s.roundFrames p).map TxFrame.id)[k]'(by rwa [List.length_map]) =
      ((List.range 9).map (reportId s.zone))[k]'(by rw [← ids, List.length_map]; exact h) := by simp only [ids]
  rw [List.getElem_map, List.getElem_map, List.getElem_range] at here
  exact here

/-- What a wake does to a port. -/
def PortWakes (zone : Fin 4) (r r' : PortRecord) : Prop :=
  (r.st = .busOff → r' = r) ∧
  (r.st = .active → r'.statusTimer = some 0 ∧ r'.st = .active ∧
    ∃ new, r'.queue = r.queue ++ new ∧ new.length = min 9 (12 - r.queue.length) ∧
      ∀ k, (h : k < new.length) → new[k].id = BitVec.ofNat 11 (0x500 + 0x10 * zone.val + k))

theorem port_wakePort_same (s : State) (p : Port) : PortWakes s.zone (s.port p) ((s.wakePort p).port p) := by
  refine ⟨fun off => ?_, fun active => ?_⟩
  · unfold State.wakePort
    rw [off]
  · have woken : s.wakePort p = s.restartStatus p := by
      unfold State.wakePort
      rw [active]
    rw [woken, restartStatus_active active, State.port_setPort_same]
    refine ⟨rfl, active, (s.roundFrames p).take (12 - (s.port p).queue.length), rfl, ?_, fun k h => ?_⟩
    · rw [List.length_take]
      exact Nat.min_comm _ _
    · rw [List.getElem_take, id_roundFrames]
      rfl

theorem port_wakePort_other (s : State) {p x : Port} (h : x ≠ p) : (s.wakePort p).port x = s.port x := by
  unfold State.wakePort
  split
  next active => rw [restartStatus_active active, State.port_setPort, if_neg h]
  next => rfl

theorem port_wakeUp (s : State) (p : Port) : PortWakes s.zone (s.port p) (s.wakeUp.port p) := by
  cases p with
  | a =>
    have here : s.wakeUp.port .a = (s.woken.wakePort .a).port .a := port_wakePort_other _ (by decide)
    rw [here]
    exact port_wakePort_same s.woken .a
  | b =>
    have there : (s.woken.wakePort .a).port .b = s.port .b := port_wakePort_other _ (by decide)
    have zone : (s.woken.wakePort .a).zone = s.zone := (only_wakePort s.woken .a).toBlocks.zone
    rw [← there, ← zone]
    exact port_wakePort_same _ .b

theorem port_st_wakeUp (s : State) (p : Port) : (s.wakeUp.port p).st = (s.port p).st := by
  obtain ⟨off, active⟩ := port_wakeUp s p
  cases st : (s.port p).st with
  | active => exact (active st).2.1
  | busOff => rw [off st, st]

/-! ### Frames that wake the part (R145, R163) -/

/-- The end of a command reads of the state before it the rest conditions alone. -/
theorem settle_congr {before before' : State} (restIn : before'.restIn = before.restIn)
    (restCh : before'.restCh = before.restCh) (s : State) : State.settle before' s = State.settle before s := by
  unfold State.settle restBegan
  rw [restIn, restCh]

theorem run_wakes {s : State} {f : State → State} (on : s.powered = true) (h : f s = f s.wakeUp) :
    s.run f = s.wakeUp.run f := by
  rw [run_on _ _ on, run_on _ _ ((only_wakeUp s).toBlocks.powered.trans on), h]
  exact (settle_congr (only_wakeUp s).toBlocks.restIn (only_wakeUp s).toBlocks.restCh _).symm

/-- A client's frame on an ACTIVE port wakes the part and is then taken as in ACTIVE. -/
theorem takeFrame_wakes {s : State} {src : Source} {judged : State → State} (asleep : s.part = .sleep)
    (active : (s.port src.port).st = .active) (sender : src.client ≠ .wired) :
    s.takeFrame src judged = s.wakeUp.takeFrame src judged := by
  unfold State.takeFrame
  rw [port_st_wakeUp, active]
  dsimp only
  rw [if_neg sender, if_neg sender, awake_of_sleep asleep, wakeUp_awake]

theorem exec_of_requestBytes {src : Source} {bytes : List Byte} (h : requestBytes i = some (src, bytes)) :
    ∃ judged, ∀ s, exec i s = .next (s.run (State.takeFrame src judged)) := by
  cases i <;> cases h <;> exact ⟨_, fun _ => rfl⟩

theorem requestId_inj {zone : Fin 4} {cl cl' : Client} : requestId zone cl = requestId zone cl' ↔ cl = cl' := by
  refine ⟨fun h => ?_, congrArg _⟩
  have number : cl.number = cl'.number := by unfold requestId at h; omega
  revert number
  cases cl <;> cases cl' <;> decide

theorem clientOfId_eq_some (zone : Fin 4) (id : Nat) (cl : Client) :
    clientOfId zone id = some cl ↔ cl ≠ .wired ∧ id = requestId zone cl := by
  refine ⟨fun h => ?_, fun ⟨sender, named⟩ => ?_⟩
  · unfold clientOfId at h
    split_ifs at h with body engine climate service <;> cases h
    · exact ⟨by decide, body⟩
    · exact ⟨by decide, engine⟩
    · exact ⟨by decide, climate⟩
    · exact ⟨by decide, service⟩
  · subst named
    unfold clientOfId
    simp only [requestId_inj]
    cases cl with
    | wired => exact absurd rfl sender
    | _ => rfl

theorem frameClient_eq_some (zone : Fin 4) (f : CanFrame) (cl : Client) : frameClient zone f = some cl ↔
    cl ≠ .wired ∧ f.remote = false ∧ f.extended = false ∧ f.id = 0x480 + cl.number + 0x10 * zone.val := by
  unfold frameClient
  split
  next other =>
    rw [Bool.or_eq_true] at other
    refine ⟨fun h => absurd h (by simp), fun ⟨_, remote, extended, _⟩ => ?_⟩
    rw [remote, extended] at other
    simp at other
  next plain =>
    simp only [Bool.or_eq_true, not_or, Bool.not_eq_true] at plain
    rw [clientOfId_eq_some]
    exact ⟨fun ⟨sender, id⟩ => ⟨sender, plain.1, plain.2, id⟩, fun ⟨sender, _, _, id⟩ => ⟨sender, id⟩⟩

/-- The client's frames are not taken on the port (R27's table, test 3 of R142). -/
def Elsewhere (cl : Client) (p : Port) : Prop := (cl = .engine ∧ p = .a) ∨ ((cl = .body ∨ cl = .climate) ∧ p = .b)

theorem takesOn_iff {cl : Client} (sender : cl ≠ .wired) (p : Port) : takesOn cl p = true ↔ ¬ Elsewhere cl p := by
  unfold Elsewhere
  revert sender
  cases cl <;> cases p <;> decide

theorem takesOn_elsewhere {cl : Client} {p : Port} (h : Elsewhere cl p) : takesOn cl p = false := by
  rcases h with ⟨rfl, rfl⟩ | ⟨rfl | rfl, rfl⟩ <;> rfl

/-- The wake of a sleeping part by a command whose effect is the wake. -/
theorem wakes_iff (s : State) (cause : WakeCause) : s.wakes cause = true ↔
    match cause with
    | .frame p f => (s.port p).st = .active ∧ f.remote = false ∧ f.extended = false ∧
        ∃ cl, cl ≠ Client.wired ∧ f.id = 0x480 + cl.number + 0x10 * s.zone.val
    | .input l => s.anyActivates l = true := by
  cases cause with
  | input l => exact Iff.rfl
  | frame p f =>
    unfold State.wakes
    simp only [Bool.and_eq_true, decide_eq_true_eq, Option.isSome_iff_exists, frameClient_eq_some]
    refine and_congr_right fun _ => ⟨fun ⟨cl, sender, remote, extended, id⟩ => ⟨remote, extended, cl, sender, id⟩,
      fun ⟨remote, extended, cl, sender, id⟩ => ⟨cl, sender, remote, extended, id⟩⟩

/-- Settles O7. -/
theorem wakeRestartsTheBlocks : Obligations.WakeRestartsTheBlocks := by
  unfold Obligations.WakeRestartsTheBlocks
  refine ⟨fun s cause on asleep handed wakes => ?_, fun i src bytes s request on asleep active sender => ?_⟩
  · have ports := only_wakeUp s
    have blocks := ports.toBlocks
    refine ⟨s.wakeUp, ?_, wakeUp_active s, blocks.quiet, blocks.powered.trans on, blocks.pending, blocks.freeIndex, ?_,
      chan_wakeUp s, ?_, ?_, ?_, ?_, blocks.pins, ?_, blocks.zone, blocks.restCh, blocks.restIn, fun f => ?_,
      fun cl sender => ?_, port_wakeUp s⟩
    · refine congrArg Host.Outcome.next ((run_event s _ _ on ?_).trans ?_)
      · refine (wakes_iff s cause).mpr ?_
        cases cause <;> exact wakes
      · rw [awake_of_sleep asleep, settle_wakeUp handed]
    all_goals rw [ports]
    · rfl
    · rfl
    · rfl
    · rfl
    · rfl
    · rfl
    · cases f <;> rfl
    · cases cl with
      | wired => exact absurd rfl sender
      | _ => rfl
  · obtain ⟨judged, taken⟩ := exec_of_requestBytes request
    rw [taken, taken, run_wakes on (takeFrame_wakes asleep active sender)]

end Sys2Proof.Machine
end

section
/-!
PROOF. Raw frames and request frames that a port ignores, refuses or loses (R142, R143, R145, R155).
-/
namespace Sys2Proof.Machine

variable {i : Instr}

/-! ### Kinds and lengths (R143) -/

theorem kindLength_table : ∀ k : Byte, kindLength k = (([(0x01, 1), (0x10, 4), (0x11, 6), (0x12, 6), (0x13, 2),
    (0x14, 5), (0x18, 2), (0x19, 2), (0x20, 4), (0x21, 2), (0x22, 6), (0x30, 7), (0x31, 8), (0x32, 7), (0x33, 7),
    (0x34, 7), (0x35, 8), (0x38, 8), (0x39, 4), (0x3A, 4), (0x40, 2), (0x7E, 1)] : List (Byte × Nat)).find? fun x =>
      x.1 = k).map Prod.snd := by decide

theorem portRefusal_unknown {data : List Byte} (some_ : data ≠ []) (h : kindLength (data.headD 0) = none) :
    portRefusal data = some .unknownKind := by
  cases data with
  | nil => exact absurd rfl some_
  | cons k rest =>
    unfold portRefusal
    dsimp only
    rw [show kindLength k = none from h]

theorem portRefusal_length {data : List Byte} {n : Nat} (some_ : data ≠ []) (h : kindLength (data.headD 0) = some n)
    (wrong : n ≠ data.length) : portRefusal data = some .badFormat := by
  cases data with
  | nil => exact absurd rfl some_
  | cons k rest =>
    unfold portRefusal
    dsimp only
    rw [show kindLength k = some n from h]
    exact if_neg fun e => wrong e.symm

theorem portRefusal_of_malformed {data : List Byte} (h : data = [] ∨ kindLength (data.headD 0) ≠ some data.length) :
    ∃ code, portRefusal data = some code := by
  by_cases empty : data = []
  · exact ⟨.badFormat, by rw [empty]; rfl⟩
  · cases known : kindLength (data.headD 0) with
    | none => exact ⟨_, portRefusal_unknown empty known⟩
    | some n =>
      refine ⟨_, portRefusal_length empty known fun e => ?_⟩
      exact h.resolve_left empty (by rw [known, e])

theorem getD_zero (data : List Byte) : data.getD 0 0 = data.headD 0 := by cases data <;> rfl

theorem getD_one (data : List Byte) : data.getD 1 0 = data.tail.headD 0 := by
  cases data with
  | nil => rfl
  | cons k rest => cases rest <;> rfl

theorem Elsewhere.sender {cl : Client} {p : Port} (h : Elsewhere cl p) : cl ≠ .wired := by
  rcases h with ⟨rfl, rfl⟩ | ⟨rfl | rfl, rfl⟩ <;> decide

/-! ### Frames a port refuses -/

theorem refuseFrame_eq {s : State} {p : Port} {f : CanFrame} {cl : Client} {code : RefusalCode}
    (names : frameClient s.zone f = some cl) (takes : takesOn cl p = true) (refusal : portRefusal f.data = some code) :
    State.refuseFrame p f s = s.takeFrame ⟨p, cl⟩ fun t =>
      t.offerReply p (f.data.headD 0) cl code (f.data.tail.headD 0) := by
  unfold State.refuseFrame
  rw [names, refusal, ← getD_zero, ← getD_one]
  exact if_pos takes

theorem refused_frame {s : State} {p : Port} {f : CanFrame} {cl : Client} {code : RefusalCode} (running : s.Running)
    (active : (s.port p).st = .active) (names : frameClient s.zone f = some cl) (takes : takesOn cl p = true)
    (refusal : portRefusal f.data = some code) : exec (.frameRefusedByPort p f) s =
      .next (s.refusedWith ⟨p, cl⟩ (f.data.headD 0) (f.data.tail.headD 0) code) := by
  refine congrArg Host.Outcome.next ((run_on s _ running.1).trans (congrArg _ ?_))
  rw [refuseFrame_eq names takes refusal, takeFrame_of_takes s ⟨p, cl⟩ _ ⟨running, active, takes⟩]

/-- What a command that runs an effect on a powered part answers. -/
theorem runs_to {s t : State} {c : Instr} {f : State → State} (runs : ∀ u, exec c u = .next (u.run f))
    (on : s.powered = true) (h : f s = t) : exec c s = .next (State.settle s t) := by
  rw [runs, run_on _ _ on, h]

theorem ignoreFrame_stranger {s : State} {p : Port} {f : CanFrame} (active : (s.port p).st = .active)
    (names : frameClient s.zone f = none) : State.ignoreFrame p f s = s := by
  unfold State.ignoreFrame
  rw [active, names]

theorem ignoreFrame_elsewhere {s : State} {p : Port} {f : CanFrame} {cl : Client} (active : (s.port p).st = .active)
    (names : frameClient s.zone f = some cl) (elsewhere : Elsewhere cl p) : State.ignoreFrame p f s = s.awake := by
  unfold State.ignoreFrame
  rw [active, names]
  exact if_neg (by simp [takesOn_elsewhere elsewhere])

/-! ### Frames on a BUS_OFF port -/

theorem ignoreFrame_off {s : State} {p : Port} {f : CanFrame} (off : (s.port p).st = .busOff) :
    State.ignoreFrame p f s = s.seeActivity p := by
  unfold State.ignoreFrame
  rw [off]

theorem seeActivity_off {s : State} {p : Port} (off : (s.port p).st = .busOff) :
    s.seeActivity p = s.setPort p { s.port p with recovery := (s.port p).recovery.map fun _ => 0 } := if_pos off

theorem takeFrame_off {s : State} {src : Source} {judged : State → State} (off : (s.port src.port).st = .busOff) :
    s.takeFrame src judged = s.setPort src.port { s.port src.port with
      recovery := (s.port src.port).recovery.map fun _ => 0 } := by
  rw [← seeActivity_off off]
  unfold State.takeFrame
  rw [off]

theorem takeFrame_skipped {s : State} {src : Source} {judged : State → State} (active : (s.port src.port).st = .active)
    (skipped : takesOn src.client src.port = false) :
    s.takeFrame src judged = if src.client = .wired then s else s.awake := by
  unfold State.takeFrame
  rw [active]
  dsimp only
  split
  · rfl
  · rw [if_neg (by simp [skipped])]

/-- Settles O9. -/
theorem portsIgnoreOrRefuseFrames : Obligations.PortsIgnoreOrRefuseFrames := by
  unfold Obligations.PortsIgnoreOrRefuseFrames
  refine ⟨fun p f s on active => ?_, fun i src bytes p f s on => ?_⟩
  · dsimp only
    refine ⟨kindLength_table, fun none => ?_, fun cl names => ⟨fun elsewhere awake => ?_, fun elsewhere asleep => ?_,
      fun here => ⟨fun asleep malformed => ?_, fun awake => ⟨fun empty => ?_, fun full known => ?_,
        fun n known full wrong => ?_⟩⟩⟩⟩
    · have stranger : frameClient s.zone f = .none :=
        Option.eq_none_iff_forall_ne_some.mpr fun cl e => none cl ((frameClient_eq_some _ _ _).mp e)
      exact runs_to (fun _ => rfl) on (ignoreFrame_stranger active stranger)
    all_goals have named := (frameClient_eq_some _ _ _).mpr names
    · exact runs_to (fun _ => rfl) on
        ((ignoreFrame_elsewhere active named elsewhere).trans (awake_of_active s awake))
    · exact runs_to (fun _ => rfl) on
        ((ignoreFrame_elsewhere active named elsewhere).trans (awake_of_sleep asleep))
    all_goals have takes := (takesOn_iff names.1 p).mpr here
    · obtain ⟨code, refusal⟩ := portRefusal_of_malformed malformed
      refine congrArg Host.Outcome.next (run_wakes on ?_)
      rw [refuseFrame_eq named takes refusal,
        refuseFrame_eq (by rw [(only_wakeUp s).toBlocks.zone]; exact named) takes refusal]
      exact takeFrame_wakes asleep active names.1
    · have refused := refused_frame ⟨on, awake⟩ active named takes (show portRefusal f.data = _ by rw [empty]; rfl)
      rw [empty] at refused
      exact refused
    · exact refused_frame ⟨on, awake⟩ active named takes (portRefusal_unknown full known)
    · exact refused_frame ⟨on, awake⟩ active named takes (portRefusal_length full known wrong)
  · dsimp only
    refine ⟨fun request => ?_, fun off => ⟨?_, fun cl sender remote extended id here malformed => ?_⟩⟩
    · obtain ⟨judged, taken⟩ := exec_of_requestBytes request
      refine ⟨fun off => runs_to taken on (takeFrame_off off), fun active wired => runs_to taken on ?_,
        fun active elsewhere => ?_⟩
      · rw [takeFrame_skipped active (by rw [wired]; exact takesOn_wired _), if_pos wired]
      · have skipped : s.takeFrame src judged = s.awake := by
          rw [takeFrame_skipped active (takesOn_elsewhere elsewhere), if_neg (Elsewhere.sender elsewhere)]
        exact ⟨fun awake => runs_to taken on (skipped.trans (awake_of_active s awake)),
          fun asleep => runs_to taken on (skipped.trans (awake_of_sleep asleep))⟩
    · exact runs_to (fun _ => rfl) on ((ignoreFrame_off off).trans (seeActivity_off off))
    · obtain ⟨code, refusal⟩ := portRefusal_of_malformed malformed
      have named := (frameClient_eq_some _ _ _).mpr ⟨sender, remote, extended, id⟩
      refine runs_to (fun _ => rfl) on ?_
      rw [refuseFrame_eq named ((takesOn_iff sender p).mpr here) refusal]
      exact takeFrame_off off

end Sys2Proof.Machine
end

section
/-!
PROOF. Request frames read back (R141, 09 section 9.9), and the bytes of report frames.
-/
namespace Sys2Proof.Machine

variable {i : Instr}

/-! ### Fields -/

theorem halfOf_bytes (h : Half) : halfOf (hiByte h) (loByte h) = h := by
  unfold halfOf hiByte loByte
  ext k hk
  simp only [BitVec.getElem_append, BitVec.getElem_extractLsb']
  split
  · simp [BitVec.getLsbD_eq_getElem, *]
  · have : 8 + (k - 8) = k := by omega
    simp [BitVec.getLsbD_eq_getElem, *]

theorem nibbles_append : ∀ x y : BitVec 4, (x ++ y).extractLsb' 4 4 = x ∧ (x ++ y).extractLsb' 0 4 = y := by decide

theorem threeBytes_append (x : BitVec 24) :
    (x.extractLsb' 16 8 ++ x.extractLsb' 8 8 : BitVec 16) ++ x.extractLsb' 0 8 = x := by
  ext k hk
  simp only [BitVec.getElem_append, BitVec.getElem_extractLsb']
  split_ifs
  · simp [BitVec.getLsbD_eq_getElem, *]
  · have : 8 + (k - 8) = k := by omega
    simp [BitVec.getLsbD_eq_getElem, *]
  · have : 16 + (k - 8 - 8) = k := by omega
    simp [BitVec.getLsbD_eq_getElem, *]

/-! ### Requests -/

/-- The layout tables read what they write. -/
theorem requestOf_requestBytes {src : Source} {bytes : List Byte} (h : requestBytes i = some (src, bytes)) :
    requestOf src bytes = some i := by
  cases i with
  | present src => cases h; rfl
  | setSteady src b d => cases h; exact congrArg (fun x => some (Instr.setSteady _ b x)) (halfOf_bytes d)
  | setTimed src b d n =>
    cases h; exact congrArg₂ (fun x y => some (Instr.setTimed _ b x y)) (halfOf_bytes d) (halfOf_bytes n)
  | setFlash src b d g n => cases h; exact congrArg (fun x => some (Instr.setFlash _ b x g n)) (halfOf_bytes d)
  | setInhibit src b => cases h; rfl
  | drive src b d n => cases h; exact congrArg (fun x => some (Instr.drive _ b d x)) (halfOf_bytes n)
  | release src b => cases h; rfl
  | clear src b => cases h; rfl
  | hold src b l n => cases h; rfl
  | unhold src b => cases h; rfl
  | flashCfg src b p o =>
    cases h; exact congrArg₂ (fun x y => some (Instr.flashCfg _ b x y)) (halfOf_bytes p) (halfOf_bytes o)
  | profileA src b c u r k =>
    cases h
    obtain ⟨hi, lo⟩ := nibbles_append c u
    change some (Instr.profileA _ b ((c ++ u).extractLsb' 4 4) ((c ++ u).extractLsb' 0 4) (halfOf _ _) (halfOf _ _)) = _
    rw [hi, lo, halfOf_bytes, halfOf_bytes]
  | profileB src b m w r o =>
    cases h; exact congrArg₂ (fun x y => some (Instr.profileB _ b x y r o)) (halfOf_bytes m) (halfOf_bytes w)
  | profileC src b m r k =>
    cases h; exact congrArg₂ (fun x y => some (Instr.profileC _ b x y k)) (halfOf_bytes m) (halfOf_bytes r)
  | profileD src b p v =>
    cases h; exact congrArg₂ (fun x y => some (Instr.profileD _ b x y)) (threeBytes_append p) (halfOf_bytes v)
  | profileE src b r n m d => cases h; exact congrArg (fun x => some (Instr.profileE _ b r n m x)) (halfOf_bytes d)
  | profileF src b a n k d l => cases h; exact congrArg (fun x => some (Instr.profileF _ b x n k d l)) (halfOf_bytes a)
  | feedCfg src b p c v =>
    cases h
    change some (Instr.feedCfg _ b (halfOf _ _) (halfOf _ _) (halfOf _ _)) = _
    rw [halfOf_bytes, halfOf_bytes, halfOf_bytes]
  | clientCfg src b n => cases h; exact congrArg (fun x => some (Instr.clientCfg _ b x)) (halfOf_bytes n)
  | statusCfg src b n => cases h; exact congrArg (fun x => some (Instr.statusCfg _ b x)) (halfOf_bytes n)
  | read src b => cases h; rfl
  | reset src => cases h; rfl
  | _ => exact nomatch h

theorem requestBytes_length {src : Source} {bytes : List Byte} (h : requestBytes i = some (src, bytes)) :
    bytes.length ≤ 8 := by
  cases i <;> cases h <;> exact Nat.le_of_ble_eq_true rfl

theorem requestId_lt (zone : Fin 4) (cl : Client) : requestId zone cl < 2 ^ 11 := by
  have number : cl.number ≤ 4 := by cases cl <;> decide
  unfold requestId
  omega

theorem wellFormed_of_requestBytes {src : Source} {bytes : List Byte} (h : requestBytes i = some (src, bytes)) :
    i.wellFormed = takesOn src.client src.port := by
  unfold Instr.wellFormed
  rw [h]
  rfl

/-- Settles O53. -/
theorem requestFramesReadBack : Obligations.RequestFramesReadBack := by
  unfold Obligations.RequestFramesReadBack
  intro zone i p f wf encoded
  obtain ⟨⟨src, bytes⟩, request, frame⟩ := Option.map_eq_some_iff.mp encoded
  cases frame
  rw [wellFormed_of_requestBytes request] at wf
  have sender : src.client ≠ .wired := fun e => by rw [e, takesOn_wired] at wf; exact nomatch wf
  refine ⟨?_, requestBytes_length request, rfl, rfl, requestId_lt zone src.client⟩
  unfold decodeFrame
  rw [(frameClient_eq_some zone _ src.client).mpr ⟨sender, rfl, rfl, rfl⟩]
  dsimp only
  rw [if_pos wf, requestOf_requestBytes request]

end Sys2Proof.Machine
end

section
/-!
PROOF. The bytes of the report and event frames (09 section 9.9; R67, R72, R148, R151, R153).
-/
namespace Sys2Proof.Machine

variable {i : Instr}

/-! ### Report frames -/

theorem flagBit_decide (q : Prop) [Decidable q] (weight : Nat) : flagBit (decide q) weight = if q then weight else 0 := by
  unfold flagBit
  simp only [decide_eq_true_eq]

theorem heldFlag_eq (s : State) (ch : Ch) : s.heldFlag ch =
    Client.all.any fun cl => ((s.slot ch cl).map Entry.isHeld).getD false := by
  unfold State.heldFlag State.entries
  rw [Bool.eq_iff_iff, List.any_eq_true, List.any_eq_true]
  simp only [List.mem_filterMap, mem_allClients, true_and]
  constructor
  · rintro ⟨e, ⟨cl, slot⟩, held⟩
    exact ⟨cl, by rw [slot]; exact held⟩
  · rintro ⟨cl, held⟩
    cases slot : s.slot ch cl with
    | none => rw [slot] at held; exact absurd held (by simp)
    | some e => exact ⟨e, ⟨cl, slot⟩, by rw [slot] at held; exact held⟩

/-- Settles O52. -/
theorem framesCarryTheirBytes : Obligations.FramesCarryTheirBytes := by
  unfold Obligations.FramesCarryTheirBytes
  constructor
  · intro p ch x k s small id bit feedByte clientCode stateCode bridgeCode causeCode fromCode channelNats c q r bytes
    have anyDefault : (allChannels.any fun y => (s.chan y).default) = true ↔ ∃ y, (s.chan y).default = true := by
      simp [List.any_eq_true, mem_allChannels]
    have feed : ∀ f, s.feedStatusByte f = BitVec.ofNat 8 (feedByte f) := fun f => by
      unfold State.feedStatusByte Admission.holdLevel Admission.overBudget
      rw [← Bool.decide_or, flagBit_decide, flagBit_decide]
      dsimp only [feedByte]
      cases (s.monitor f).st <;> cases (s.unit f).hold <;> rfl
    have client : ∀ cl, (s.client cl).st.code = clientCode cl := fun cl => by
      dsimp only [clientCode]
      cases (s.client cl).st <;> rfl
    have state : ∀ st : ChState, st.code = stateCode st := fun st => by cases st <;> rfl
    have cause : ∀ y : TripCause, y.code = causeCode y := fun y => by cases y <;> rfl
    have from_ : ∀ y : TripFrom, y.code = fromCode y := fun y => by cases y <;> rfl
    have bridge : ∀ b : BridgeRecord, b.code = bridgeCode b := fun b => by
      dsimp only [bridgeCode]
      unfold BridgeRecord.code
      cases b.st <;> cases b.dir <;> rfl
    have channel : ∀ y, s.channelBytes y = bytes (channelNats y) := fun y => by
      unfold State.channelBytes
      dsimp only
      rw [state, heldFlag_eq]
      cases owner : bridgeOf y with
      | none => dsimp only [channelNats]; rw [owner]; rfl
      | some br => dsimp only [channelNats]; rw [owner, bridge]; rfl
    refine ⟨?_, ?_, ?_⟩
    · unfold State.summaryFrame
      rw [client, client, client, client, feed, feed]
      refine congrArg (TxFrame.mk _) ?_
      have both : flagBit (allChannels.any fun y => (s.chan y).default) 2 = bit (∃ y, (s.chan y).default = true) 2 :=
        if_congr anyDefault rfl rfl
      rw [both]
      rfl
    · unfold State.statusFrame
      rw [channel, channel]
      exact congrArg (TxFrame.mk _) List.map_append.symm
    · unfold State.detailFrames
      dsimp only
      rw [cause, from_]
      rfl
  · intro ch f p cl who n a b c d o zone bytes side port cur
    have sideCode : side = f.code := by cases f <;> rfl
    have portCode : port = p.code := by cases p <;> rfl
    have current : currentField o = bytes [cur / 256, cur] := by cases o <;> rfl
    rw [sideCode, portCode]
    refine ⟨fun cause code h st tripped k => ?_, rfl, fun st code h => ?_, rfl, rfl, rfl, rfl, rfl,
      fun former was h new is_ k => ?_, rfl, rfl, fun cause code h => ⟨?_, ?_⟩, rfl, rfl, rfl, rfl, rfl, rfl, rfl, rfl⟩
    · have causeCode : code = cause.code := by cases cause <;> simp_all [TripCause.code]
      have fromCode : tripped = st.code := by cases st <;> simp_all [TripFrom.code]
      rw [causeCode, fromCode]
      unfold Event.bytes
      dsimp only
      rw [current]
      rfl
    · have stateCode : code = st.code := by cases st <;> simp_all [ChState.code]
      rw [stateCode]
      rfl
    · have wasCode : was = former.code := by cases former <;> simp_all [FeedState.code]
      have isCode : is_ = new.code := by cases new <;> simp_all [FeedState.code]
      rw [wasCode, isCode]
      rfl
    all_goals
      have endCode : code = cause.code := by cases cause <;> simp_all [DriveCause.code]
      rw [endCode]
      rfl

end Sys2Proof.Machine
end

section
/-!
PROOF. The queue of a feed (R54, R55) and its examination (R57 to R59).
-/
namespace Sys2Proof.Machine

variable {i : Instr}

/-! ### The place in the queue (R54) -/

/-- The entry stands between those it may not pass and those of a higher class (R54). -/
theorem insertBehind_split (e : QueueEntry) (q : List QueueEntry) :
    ∃ front back, q = front ++ back ∧ insertBehind e q = front ++ e :: back ∧
      (∀ x ∈ back, e.cls < x.cls) ∧ (front = [] ∨ ∃ x, front.getLast? = some x ∧ x.cls ≤ e.cls) := by
  induction q with
  | nil => exact ⟨[], [], rfl, rfl, by simp, .inl rfl⟩
  | cons y ys ih =>
    unfold insertBehind
    split
    next below =>
      obtain ⟨front, back, eq, inserted, above, last⟩ := ih
      refine ⟨y :: front, back, by rw [eq]; rfl, by rw [inserted]; rfl, above, .inr ?_⟩
      rcases last with rfl | ⟨x, hx, le⟩
      · have le : y.cls ≤ e.cls := by
          simp only [List.any_cons, Bool.or_eq_true, List.any_eq_true, decide_eq_true_eq] at below
          rcases below with le | ⟨x, hx, le⟩
          · exact le
          · exact absurd (above x (by rwa [eq] at hx)) (by omega)
        exact ⟨y, rfl, le⟩
      · exact ⟨x, by rw [List.getLast?_cons, hx]; rfl, le⟩
    next above =>
      simp only [List.any_eq_true, decide_eq_true_eq, not_exists, not_and, not_le] at above
      exact ⟨[], y :: ys, rfl, rfl, above, .inl rfl⟩

/-- A batch is placed class by class (R55). -/
theorem placeBatch_eq (s : State) (f : Feed) (batch : List Ch) : s.placeBatch f batch =
    (((batch.filter fun ch => (s.chan ch).profile.cls = 1) ++ (batch.filter fun ch => (s.chan ch).profile.cls = 2) ++
      (batch.filter fun ch => (s.chan ch).profile.cls = 3)).foldl State.place s).examine f := by
  unfold State.placeBatch State.overChannels
  simp only [List.flatMap_cons, List.flatMap_nil, List.append_nil, List.append_assoc]

/-! ### Judging the head (R57, R59) -/

/-- The block level of a feed without and with a hold, in LOW and SURGE and outside them (R57). -/
theorem blockLevel_eq (s : State) (f : Feed) : s.blockLevel f =
    min 4 (min (match (s.unit f).hold with
        | some h => h.level
        | none => 4)
      (if (s.monitor f).st = .low ∨ (s.monitor f).st = .surge then 2 else 4)) := by
  unfold State.blockLevel
  cases (s.unit f).hold <;> cases (s.monitor f).st <;> simp

theorem fits_iff (s : State) (f : Feed) (e : QueueEntry) : s.fits f e = true ↔
    e.cls < s.blockLevel f ∧ (s.unit f).sumS + (s.chan e.ch).profile.iclaim ≤ (s.unit f).peak ∧
      (s.unit f).sumR + (s.chan e.ch).profile.rclaim ≤ (s.unit f).cont := by
  unfold State.fits
  simp only [Bool.and_eq_true, decide_eq_true_eq, and_assoc]

/-- An admission leaves its feed's queue alone. -/
theorem queue_admitChannel (s : State) (ch : Ch) (f : Feed) :
    ((s.admitChannel ch).unit f).queue = (s.unit f).queue := by
  obtain ⟨n, unit⟩ := unit_admitChannel s ch
  rw [unit]
  split
  next here => rw [here]
  next => rfl

/-- The state from which the next head is judged: this head has left the queue and is admitted (R59). -/
def State.admitHead (s : State) (f : Feed) (e : QueueEntry) : State :=
  (s.setUnit f { s.unit f with queue := (s.unit f).queue.tail }).admitChannel e.ch

theorem queue_admitHead (s : State) (f : Feed) (e : QueueEntry) :
    ((s.admitHead f e).unit f).queue = (s.unit f).queue.tail := by
  unfold State.admitHead
  rw [queue_admitChannel, State.unit_setUnit_same]

theorem examine_of_blocked {s : State} {f : Feed} {e : QueueEntry} (head : (s.unit f).queue.head? = some e)
    (blocked : s.fits f e = false) : s.examine f = s := by
  obtain ⟨rest, queue⟩ := List.head?_eq_some_iff.mp head
  unfold State.examine
  rw [queue, List.length_cons]
  unfold State.examineHeads
  rw [queue]
  dsimp only
  rw [blocked]
  rfl

theorem examine_of_fitting {s : State} {f : Feed} {e : QueueEntry} (head : (s.unit f).queue.head? = some e)
    (fits : s.fits f e = true) : s.examine f = (s.admitHead f e).examine f := by
  obtain ⟨rest, queue⟩ := List.head?_eq_some_iff.mp head
  have left := queue_admitHead s f e
  rw [queue, List.tail_cons] at left
  unfold State.examine
  rw [left, queue, List.length_cons, State.examineHeads.eq_def]
  dsimp only
  rw [queue]
  dsimp only
  rw [if_pos fits]
  unfold State.admitHead
  rw [queue, List.tail_cons]

/-- When an examination ends, the head of the queue is blocked or does not fit (R59). -/
theorem head_after_examine (s : State) (f : Feed) {e : QueueEntry}
    (head : ((s.examine f).unit f).queue.head? = some e) : (s.examine f).fits f e = false := by
  induction n : (s.unit f).queue.length generalizing s with
  | zero =>
    have none_ := examine_of_empty (List.length_eq_zero_iff.mp n)
    rw [none_, List.length_eq_zero_iff.mp n] at head
    cases head
  | succ m ih =>
    obtain ⟨e', rest, queue⟩ := List.exists_cons_of_length_eq_add_one n
    have first : (s.unit f).queue.head? = some e' := by rw [queue]; rfl
    cases judged : s.fits f e' with
    | false =>
      rw [examine_of_blocked first judged] at head ⊢
      rw [first] at head
      cases head
      exact judged
    | true =>
      rw [examine_of_fitting first judged] at head ⊢
      refine ih _ head ?_
      rw [queue_admitHead, List.length_tail, n]
      rfl

/-- Settles O21. -/
theorem queuesAreFilledAndExamined : Obligations.QueuesAreFilledAndExamined := by
  unfold Obligations.QueuesAreFilledAndExamined
  refine ⟨insertBehind_split, fun f s batch => placeBatch_eq s f batch, fun f s => ?_⟩
  intro level fits
  have judged : ∀ t e, t.fits f e = true ↔ fits t e := fun t e => by
    have judges := fits_iff t f e
    rw [blockLevel_eq] at judges
    exact judges
  refine ⟨fun empty => examine_of_empty empty, fun e head no => ?_, fun e head _ yes => ?_, fun _ e head => ?_⟩
  · exact examine_of_blocked head (Bool.eq_false_iff.mpr fun h => no ((judged s e).mp h))
  · exact examine_of_fitting head ((judged s e).mpr yes)
  · exact fun h => Bool.eq_false_iff.mp (head_after_examine s f head) ((judged _ e).mpr h)

end Sys2Proof.Machine
end

section
/-!
PROOF. Admissions and their numbers (R15, R53, R59, R61, R62, R91, R118), and the two timers of chapter 3 that
run out on a channel (R17, R66).
-/
namespace Sys2Proof.Machine

variable {i : Instr}

/-! ### An admission with the counter short of its end -/

theorem State.setUnit_setUnit (s : State) (f : Feed) (u v : Admission) :
    (s.setUnit f u).setUnit f v = s.setUnit f v := by
  cases f <;> rfl

/-- The state after the claims are added and the number counted (R53, R59, R61). -/
def State.countedIn (s : State) (ch : Ch) : State :=
  s.setUnit (feedOf ch) { s.unit (feedOf ch) with
    sumS := (s.unit (feedOf ch)).sumS + (s.chan ch).profile.iclaim
    sumR := (s.unit (feedOf ch)).sumR + (s.chan ch).profile.rclaim
    counter := (s.unit (feedOf ch)).counter + 1 }

theorem admitChannel_below {s : State} {ch : Ch} (below : (s.unit (feedOf ch)).counter < 4294967295) :
    s.admitChannel ch = (s.countedIn ch).enterRamping ch ((s.unit (feedOf ch)).counter + 1) := by
  have counted : (s.addClaims ch).countAdmission (feedOf ch) = s.countedIn ch := by
    unfold State.countAdmission State.addClaims
    dsimp only
    rw [State.unit_setUnit_same]
    refine (congrArg (fun t : State => t.setUnit _ _) (if_pos below)).trans ?_
    rw [if_pos (show _ < maxAdmission from below), State.unit_setUnit_same, State.setUnit_setUnit]
    rfl
  unfold State.admitChannel
  dsimp only
  rw [counted]
  unfold State.countedIn
  rw [State.unit_setUnit_same]

theorem enterRamping_pwm {s : State} {ch : Ch} (n : Nat) (pwm : bridgeOf ch = none) : s.enterRamping ch n =
    s.setChan ch ((s.chan ch).enterRamping (typeOf ch) (s.monitor (feedOf ch)).vavg n) := by
  unfold State.enterRamping
  rw [pwm]

theorem enterRamping_bridge {s : State} {ch : Ch} {br : Bridge} (n : Nat) (owner : bridgeOf ch = some br) :
    s.enterRamping ch n =
      (s.setChan ch ((s.chan ch).enterRamping (typeOf ch) (s.monitor (feedOf ch)).vavg n)).startBridge br := by
  unfold State.enterRamping
  rw [owner]

theorem Channel.enterRamping_pwm {t : ChannelType} (vavg n : Nat) (c : Channel) (pwm : t ≠ .bridge) :
    c.enterRamping t vavg n = { c with
      st := .ramping, window := some c.profile.window, stamp := some n, goodRun := none
      applied := appliedDuty t c.profile.vt vavg c.pending
      onTime := onTimeOf t.tmin (c.profile.period.getD 0) (appliedDuty t c.profile.vt vavg c.pending)
      periodTimer := some ⟨0, 0⟩ } := by
  unfold Channel.enterRamping
  exact if_neg pwm

theorem Channel.enterRamping_bridge (vavg n : Nat) (c : Channel) :
    c.enterRamping .bridge vavg n = { c with
      st := .ramping, window := some c.profile.window, stamp := some n, goodRun := none, applied := c.pending } := rfl

theorem Channel.enterRamping_stamp (t : ChannelType) (vavg n : Nat) (c : Channel) :
    (c.enterRamping t vavg n).stamp = some n := by
  unfold Channel.enterRamping
  dsimp only
  split <;> rfl

theorem chan_enterRamping (s : State) (ch : Ch) (n : Nat) (x : Ch) : (s.enterRamping ch n).chan x =
    if x = ch then (s.chan ch).enterRamping (typeOf ch) (s.monitor (feedOf ch)).vavg n else s.chan x := by
  cases owner : bridgeOf ch with
  | none => rw [enterRamping_pwm n owner, State.chan_setChan]
  | some br => rw [enterRamping_bridge n owner, State.startBridge, State.chan_setBridge, State.chan_setChan]

theorem not_bridge_of_bridgeOf {ch : Ch} (h : bridgeOf ch = none) : typeOf ch ≠ .bridge := fun bridge => by
  obtain ⟨br, owner⟩ := bridgeOf_of_type bridge
  rw [h] at owner
  cases owner

/-! ### The renumbering (R61) -/

theorem chan_restamp (n : Ch → Nat) (l : List Ch) (nodup : l.Nodup) (s : State) (x : Ch) :
    (s.overChannels (fun ch t => t.setChan ch { t.chan ch with stamp := some (n ch) }) l).chan x =
      if x ∈ l then { s.chan x with stamp := some (n x) } else s.chan x := by
  unfold State.overChannels
  induction l generalizing s with
  | nil => rfl
  | cons ch l ih =>
    obtain ⟨fresh, rest⟩ := List.nodup_cons.mp nodup
    rw [List.foldl_cons, ih rest, State.chan_setChan]
    by_cases here : x = ch
    · subst here
      simp [fresh]
    · simp [here]

theorem mem_admittedOf {s : State} {f : Feed} {x : Ch} : x ∈ s.admittedOf f ↔
    feedOf x = f ∧ ((s.chan x).st = .ramping ∨ (s.chan x).st = .on) := by
  unfold State.admittedOf
  rw [List.mem_filter, mem_channelsOf, Channel.admitted_iff]

theorem admittedOf_nodup (s : State) (f : Feed) : (s.admittedOf f).Nodup := (channelsOf_nodup f).filter _

theorem stamp_renumber (s : State) (f : Feed) (x : Ch) : ((s.renumber f).chan x).stamp =
    if x ∈ s.admittedOf f then some (s.renumbered f x) else (s.chan x).stamp := by
  have stamped := congrArg Channel.stamp (chan_restamp (s.renumbered f) _ (admittedOf_nodup s f) s x)
  refine (Eq.trans ?_ stamped).trans ?_
  · rfl
  · split <;> rfl

theorem length_admittedOf (s : State) (f : Feed) : (s.admittedOf f).length =
    allChannels.countP fun x => decide (feedOf x = f ∧ ((s.chan x).st = .ramping ∨ (s.chan x).st = .on)) := by
  unfold State.admittedOf channelsOf
  rw [List.filter_filter, ← List.countP_eq_length_filter]
  refine List.countP_congr fun x _ => ?_
  simp only [Bool.and_eq_true, decide_eq_true_eq, Channel.admitted_iff, and_comm]

theorem renumbered_pos (s : State) (f : Feed) (x : Ch) : 1 ≤ s.renumbered f x := Nat.le_add_right 1 _

theorem renumbered_le {s : State} {f : Feed} {x : Ch} (admitted : x ∈ s.admittedOf f) :
    s.renumbered f x ≤ (s.admittedOf f).length := by
  have fewer : ((s.admittedOf f).filter fun y => (s.chan y).stampNumber < (s.chan x).stampNumber).length <
      (s.admittedOf f).length :=
    List.length_filter_lt_length_iff_exists.mpr ⟨x, admitted, by simp⟩
  unfold State.renumbered
  omega

/-- The renumbering keeps the order of the stamps (R61). -/
theorem renumbered_lt {s : State} {f : Feed} {x y : Ch} (admitted : x ∈ s.admittedOf f)
    (lt : (s.chan x).stampNumber < (s.chan y).stampNumber) : s.renumbered f x < s.renumbered f y := by
  have inner : ((s.admittedOf f).filter fun z => (s.chan z).stampNumber < (s.chan x).stampNumber) =
      ((s.admittedOf f).filter fun z => (s.chan z).stampNumber < (s.chan y).stampNumber).filter
        fun z => (s.chan z).stampNumber < (s.chan x).stampNumber := by
    rw [List.filter_filter]
    refine List.filter_congr fun z _ => ?_
    rw [Bool.eq_iff_iff, Bool.and_eq_true]
    simp only [decide_eq_true_eq]
    omega
  unfold State.renumbered
  rw [inner]
  refine Nat.add_lt_add_left (List.length_filter_lt_length_iff_exists.mpr ⟨x, ?_, by simp⟩) 1
  exact List.mem_filter.mpr ⟨admitted, decide_eq_true lt⟩

/-- The numbers given by an admission with the counter at its end (R61). -/
theorem admitChannel_renumbers {s : State} {ch : Ch} (atEnd : (s.unit (feedOf ch)).counter = 4294967295) :
    ((s.admitChannel ch).unit (feedOf ch)).counter = (s.admittedOf (feedOf ch)).length + 1 ∧
    ((s.admitChannel ch).chan ch).stamp = some ((s.admittedOf (feedOf ch)).length + 1) ∧
    ∀ x, x ≠ ch → ((s.admitChannel ch).chan x).stamp =
      if x ∈ s.admittedOf (feedOf ch) then some (s.renumbered (feedOf ch) x) else (s.chan x).stamp := by
  set f := feedOf ch with hf
  have claimed : (s.addClaims ch).admittedOf f = s.admittedOf f := rfl
  have full : ¬ ((s.addClaims ch).unit f).counter < maxAdmission := by
    unfold State.addClaims
    rw [State.unit_setUnit_same, atEnd]
    decide
  have counted : (s.addClaims ch).countAdmission f = ((s.addClaims ch).renumber f).setUnit f
      { ((s.addClaims ch).renumber f).unit f with counter := (s.admittedOf f).length + 1 } := by
    unfold State.countAdmission
    dsimp only
    rw [if_neg full, unit_renumber, if_pos rfl, claimed]
  have number : (((s.addClaims ch).countAdmission f).unit f).counter = (s.admittedOf f).length + 1 := by
    rw [counted, State.unit_setUnit_same]
  have entered : s.admitChannel ch =
      ((s.addClaims ch).countAdmission f).enterRamping ch ((s.admittedOf f).length + 1) := by
    unfold State.admitChannel
    dsimp only
    rw [← hf, number]
  have stamped : ∀ x, (((s.addClaims ch).countAdmission f).chan x).stamp =
      if x ∈ s.admittedOf f then some (s.renumbered f x) else (s.chan x).stamp := fun x => by
    rw [counted, State.chan_setUnit, stamp_renumber]
    rfl
  refine ⟨?_, ?_, fun x hx => ?_⟩
  · rw [← number, entered]
    unfold State.unit
    rw [adm_enterRamping]
  · rw [entered, chan_enterRamping, if_pos rfl, Channel.enterRamping_stamp]
  · rw [entered, chan_enterRamping, if_neg hx, stamped]

/-- Settles O22. -/
theorem admissionEntersRamping : Obligations.AdmissionEntersRamping := by
  unfold Obligations.AdmissionEntersRamping
  constructor
  · intro ch s f c p u a below counted ramping
    refine ⟨fun pwm => ?_, fun br owner => ?_⟩
    · rw [admitChannel_below below, enterRamping_pwm _ pwm, Channel.enterRamping_pwm _ _ _ (not_bridge_of_bridgeOf pwm)]
      rfl
    · obtain rfl := bridgeOf_eq_some owner
      rw [admitChannel_below below, enterRamping_bridge _ owner, typeOf_bridgeChannel, Channel.enterRamping_bridge]
      unfold State.startBridge
      rw [restAfterLegsOff_eq]
      unfold State.bridgeProfile
      rw [State.chan_setChan_same]
      rfl
  · intro ch s f t admitted atEnd resting _ _
    obtain ⟨counter, stamp, others⟩ := admitChannel_renumbers atEnd
    have given : ∀ x, admitted x → (t.chan x).stamp = some (s.renumbered f x) := fun x hx => by
      have other : x ≠ ch := fun e => resting (e ▸ hx)
      rw [others x other, if_pos (mem_admittedOf.mpr hx)]
    refine ⟨?_, ?_, fun x hx => ?_, fun x y hx hy lt => ?_, fun x hx other => ?_⟩
    · rw [counter, length_admittedOf]
    · rw [stamp, counter]
    · refine ⟨_, given x hx, renumbered_pos s f x, ?_⟩
      rw [counter]
      exact Nat.lt_succ_of_le (renumbered_le (mem_admittedOf.mpr hx))
    · unfold Channel.stampNumber at lt ⊢
      rw [given x hx, given y hy]
      exact renumbered_lt (mem_admittedOf.mpr hx) lt
    · rw [others x other, if_neg fun mem => hx (mem_admittedOf.mp mem)]

/-! ### The timers of a channel that waits or ramps (R17, R66) -/

theorem Admission.headroom_eq (u : Admission) : u.headroom = min 255 ((u.peak - u.sumS) / 10) := rfl

section
variable {s : State} {ch : Ch} {e : QueueEntry} {front back : List QueueEntry}

theorem queueEntry_of_split (queue : (s.unit (feedOf ch)).queue = front ++ e :: back) (own : e.ch = ch)
    (before : ∀ x ∈ front, x.ch ≠ ch) : s.queueEntry ch = some e := by
  have passed : front.find? (fun x => x.ch = ch) = none :=
    List.find?_eq_none.mpr fun x hx => by simpa using before x hx
  unfold State.queueEntry
  rw [queue, List.find?_append, passed, List.find?_cons_of_pos (by simpa using own)]
  rfl

theorem queuePosition_of_split (queue : (s.unit (feedOf ch)).queue = front ++ e :: back) (own : e.ch = ch)
    (before : ∀ x ∈ front, x.ch ≠ ch) : s.queuePosition ch = front.length + 1 := by
  unfold State.queuePosition
  rw [queue, List.takeWhile_append_of_pos (by simpa using before), List.takeWhile_cons_of_neg (by simpa using own),
    List.append_nil, Nat.add_comm]

/-- ADMIT_DELAY on a channel that stands in its feed's queue once (R66, R67). -/
theorem expireAdmitDelay_of_split (queue : (s.unit (feedOf ch)).queue = front ++ e :: back) (own : e.ch = ch)
    (before : ∀ x ∈ front, x.ch ≠ ch) (behind : ∀ x ∈ back, x.ch ≠ ch) : State.expireAdmitDelay ch s =
      (s.setUnit (feedOf ch) { s.unit (feedOf ch) with queue := front ++ { e with delay := none } :: back }).offerEvent
        (.admitDelay ch (feedOf ch) e.cls (front.length + 1) (s.blockLevel (feedOf ch))
          (s.unit (feedOf ch)).headroom) := by
  have kept : ∀ l : List QueueEntry, (∀ x ∈ l, x.ch ≠ ch) →
      l.map (fun x => if x.ch = ch then { x with delay := none } else x) = l := fun l others =>
    (List.map_congr_left fun x hx => if_neg (others x hx)).trans (List.map_id l)
  unfold State.expireAdmitDelay
  dsimp only
  rw [queueEntry_of_split queue own before, queuePosition_of_split queue own before, queue, List.map_append,
    List.map_cons, kept front before, kept back behind, if_pos own]

end

/-- Settles O23. -/
theorem rampingEndsAndWaitingIsReported : Obligations.RampingEndsAndWaitingIsReported := by
  unfold Obligations.RampingEndsAndWaitingIsReported
  refine ⟨fun ch s => ?_, fun ch n e front back s => ?_⟩
  · intro f c running ramping window
    exact congrArg _ (run_due s _ (State.expireWindow ch) running ((windowDue_iff s ch).mpr ⟨ramping, window⟩))
  · intro f u running queue own before behind delay late
    have due : s.admitDelayDue ch = true :=
      (admitDelayDue_iff s ch).mpr ⟨e, queueEntry_of_split queue own before, n, delay, late⟩
    have told := expireAdmitDelay_of_split queue own before behind
    rw [blockLevel_eq, Admission.headroom_eq] at told
    exact congrArg Host.Outcome.next
      ((run_due s _ (State.expireAdmitDelay ch) running due).trans (congrArg (State.settle s) told))

end Sys2Proof.Machine
end

section
/-!
PROOF. The channel requests as they are accepted (R36 to R40), the hand-over of a combined demand case by case
(R12 to R16, R43, R54, R62), and the entries a request or an input records (R38, R46, R107).
-/
namespace Sys2Proof.Machine

variable {i : Instr}

/-! ### Accepted channel requests -/

section
variable {s : State} {src : Source} {b : Byte} {ch : Ch} (takes : s.Takes src) (named : NamesChannel b ch)
include takes named

theorem setSteady_accepted (d : Half) (other : typeOf ch ≠ .bridge) (may : s.MayDemand src.client ch) :
    exec (.setSteady src b d) s = .next (s.accepted src fun u =>
      if min 1000 d.toNat = 0 then u.releaseEntry src.client ch
      else u.recordEntry ch src.client (.steady (min 1000 d.toNat) false)) := by
  refine accepted_by (fun _ => rfl) takes ((onChannel_named named).trans ?_)
  rw [heard_chan]
  exact (check_pass (decide_eq_true other)).trans (check_pass ((allowsDemand_iff s _ ch).mpr may))

theorem setTimed_accepted (d n : Half) (other : typeOf ch ≠ .bridge) (may : s.MayDemand src.client ch) :
    exec (.setTimed src b d n) s = .next (s.accepted src fun u =>
      u.recordEntry ch src.client (.timed (min 1000 d.toNat) (max 1 (min 60000 n.toNat)) 0)) := by
  refine accepted_by (fun _ => rfl) takes ((onChannel_named named).trans ?_)
  rw [heard_chan]
  exact (check_pass (decide_eq_true other)).trans (check_pass ((allowsDemand_iff s _ ch).mpr may))

theorem setFlash_accepted (d : Half) {gb : Byte} {g : Sys2Proof.Group} (k : Byte) (lamp : typeOf ch = .lamp)
    (side : NamesSide gb g) (may : s.MayDemand src.client ch) :
    exec (.setFlash src b d gb k) s = .next (s.accepted src fun u =>
      u.recordEntry ch src.client (.flash (min 1000 d.toNat) g k.toNat k.toNat false false)) := by
  refine accepted_by (fun _ => rfl) takes ((onChannel_named named).trans ((check_pass (decide_eq_true lamp)).trans ?_))
  rw [heard_chan, sideOfByte_eq_some.mpr side]
  exact check_pass ((allowsDemand_iff s _ ch).mpr may)

theorem setInhibit_accepted (may : s.MayInhibit src.client ch) : exec (.setInhibit src b) s =
    .next (s.accepted src fun u => u.recordEntry ch src.client .inhibit) := by
  refine accepted_by (fun _ => rfl) takes ((onChannel_named named).trans ?_)
  rw [heard_chan]
  exact check_pass ((allowsInhibit_iff s _ ch).mpr may)

theorem release_accepted : exec (.release src b) s =
    .next (s.accepted src fun u => u.releaseEntry src.client ch) := by
  refine accepted_by (fun _ => rfl) takes ?_
  have single : b ≠ 0xFF := by
    rintro rfl
    exact absurd ch.isLt (by rw [← show _ = ch.val from named]; decide)
  unfold judgeRelease
  rw [if_neg single]
  exact onChannel_named named

end

theorem releaseAll_accepted {s : State} {src : Source} (takes : s.Takes src) : exec (.release src 0xFF) s =
    .next (s.accepted src fun u => allChannels.foldl (fun t x => t.releaseEntry src.client x) u) :=
  accepted_by (fun _ => rfl) takes (if_pos rfl)

/-! ### The state R14's table gives -/

section
variable {s : State} {ch : Ch}

theorem start_suspended (h : (s.monitor (feedOf ch)).st = .cut ∨
    ((s.monitor (feedOf ch)).st = .surge ∧ 2 ≤ (s.chan ch).profile.cls)) :
    s.start ch = s.setChan ch { s.chan ch with st := .suspended } := by
  have table : s.startStateOf ch = .suspended := by
    unfold State.startStateOf startState
    rcases h with cut | surge
    · exact if_pos cut
    · exact (if_neg (by rw [surge.1]; decide)).trans (if_pos surge)
  unfold State.start
  rw [table]

theorem start_bypass (h : (s.monitor (feedOf ch)).st ≠ .cut) (cls : (s.chan ch).profile.cls = 0) :
    s.start ch = s.admitChannel ch := by
  have table : s.startStateOf ch = .ramping := by
    unfold State.startStateOf startState
    rw [if_neg h, if_neg (by omega), if_pos cls]
  unfold State.start
  rw [table]

theorem start_waiting (h : (s.monitor (feedOf ch)).st ≠ .cut)
    (ok : ¬ ((s.monitor (feedOf ch)).st = .surge ∧ 2 ≤ (s.chan ch).profile.cls))
    (cls : (s.chan ch).profile.cls ≠ 0) : s.start ch = (s.place ch).examine (feedOf ch) := by
  have table : s.startStateOf ch = .waiting := by
    unfold State.startStateOf startState
    rw [if_neg h, if_neg ok, if_neg cls]
  unfold State.start
  rw [table]

end

/-! ### The hand-over, case by case -/

/-- The state with a channel's combined demand recorded in its controller (R12, R43, R100). -/
def State.told (s : State) (ch : Ch) : State := s.setChan ch ((s.chan ch).record (typeOf ch) (s.combined ch))

theorem chan_told (s : State) (ch : Ch) :
    (s.told ch).chan ch = (s.chan ch).record (typeOf ch) (s.combined ch) := State.chan_setChan_same _ _ _

section
variable {s : State} {ch : Ch} (examined : Bool)

theorem recompute_of_same (duty : (s.combined ch).duty = (s.chan ch).pending)
    (inhibited : (s.combined ch).inhibited = (s.chan ch).inhibited)
    (wants : (s.combined ch).wants = (s.chan ch).wish) : s.recompute examined ch = s := by
  unfold State.recompute
  exact if_pos ⟨duty, wants, inhibited⟩

theorem recompute_of_sameWish (change : ¬ ((s.combined ch).duty = (s.chan ch).pending ∧
    (s.combined ch).inhibited = (s.chan ch).inhibited ∧ (s.combined ch).wants = (s.chan ch).wish))
    (wants : (s.combined ch).wants = (s.chan ch).wish) : s.recompute examined ch = s.told ch := by
  unfold State.recompute State.told
  exact (if_neg fun ⟨d, w, h⟩ => change ⟨d, h, w⟩).trans (if_pos wants)

theorem recompute_begins (wish : (s.chan ch).wish = false) (wants : (s.combined ch).wants = true) :
    s.recompute examined ch = (s.told ch).wishBegins ch := by
  unfold State.recompute State.told
  dsimp only
  rw [wish, wants, if_neg (by simp), if_neg (by simp), if_pos rfl]

theorem recompute_ends (wish : (s.chan ch).wish = true) (wants : (s.combined ch).wants = false) :
    s.recompute examined ch = (s.told ch).wishEnds examined ch := by
  unfold State.recompute State.told
  dsimp only
  rw [wish, wants, if_neg (by simp), if_neg (by simp), if_neg (by simp)]

/-- Outside the bridges a hand-over that changes no wish records the values, whether one has changed or
not. -/
theorem recompute_tells (other : typeOf ch ≠ .bridge) (wants : (s.combined ch).wants = (s.chan ch).wish) :
    s.recompute examined ch = s.told ch := by
  by_cases change : (s.combined ch).duty = (s.chan ch).pending ∧
      (s.combined ch).inhibited = (s.chan ch).inhibited ∧ (s.combined ch).wants = (s.chan ch).wish
  · obtain ⟨duty, inhibited, _⟩ := change
    rw [recompute_of_same examined duty inhibited wants]
    unfold State.told Channel.record
    rw [duty, inhibited, wants, if_neg (by simp [other])]
    exact (State.setChan_chan s ch).symm
  · exact recompute_of_sameWish examined change wants

end

theorem Channel.record_eq (t : ChannelType) (d : Combined) (c : Channel) : c.record t d = { c with
    wish := d.wants, inhibited := d.inhibited, pending := d.duty
    applied := if t = .bridge ∧ (c.st = .ramping ∨ c.st = .on) then d.duty else c.applied } := by
  unfold Channel.record
  simp only [Bool.and_eq_true, Channel.admitted_iff, decide_eq_true_eq]

theorem Channel.record_st (t : ChannelType) (d : Combined) (c : Channel) : (c.record t d).st = c.st := rfl

end Sys2Proof.Machine
end

section
/-!
PROOF. How a wish begins and ends by the state of its channel (R12 to R16, R54, R56), and SET_STEADY from one
end to the other (R37, R38).
-/
namespace Sys2Proof.Machine

variable {i : Instr}

/-! ### A channel goes OFF (R11, R16, R53, R56) -/

/-- A unit as a channel that goes OFF leaves it. -/
def Admission.without (u : Admission) (ch : Ch) (c : Channel) : Admission :=
  match c.st with
  | .waiting => { u with queue := u.queue.filter fun e => e.ch ≠ ch }
  | .ramping => { u with sumS := u.sumS - c.profile.iclaim, sumR := u.sumR - c.profile.rclaim }
  | .on => { u with sumS := u.sumS - c.profile.rclaim, sumR := u.sumR - c.profile.rclaim }
  | _ => u

/-- A channel's record as it goes OFF. -/
def Channel.wentOff (c : Channel) : Channel :=
  match c.st with
  | .ramping => { c with st := .off, window := none, goodRun := none, lowCount := 0, goodCount := 0
                         applied := 0, onTime := 0, periodTimer := none }
  | .on => { c with st := .off, window := none, goodRun := none, lowCount := 0, goodCount := 0
                    applied := 0, onTime := 0, periodTimer := none }
  | _ => { c with st := .off }

theorem leaveTo_off (s : State) (ch : Ch) : s.leaveTo ch .off =
    (s.setUnit (feedOf ch) ((s.unit (feedOf ch)).without ch (s.chan ch))).setChan ch (s.chan ch).wentOff := by
  have still : (s.unit (feedOf ch)).without ch (s.chan ch) = s.unit (feedOf ch) →
      (s.chan ch).wentOff = { s.chan ch with st := .off } →
      s.leaveTo ch .off = s.setChan ch { s.chan ch with st := .off } →
      s.leaveTo ch .off = (s.setUnit (feedOf ch) ((s.unit (feedOf ch)).without ch (s.chan ch))).setChan ch
        (s.chan ch).wentOff := fun unit chan leaves => by
    rw [unit, chan, leaves, State.setUnit_unit]
  cases st : (s.chan ch).st with
  | off => exact still (by simp [Admission.without, st]) (by simp [Channel.wentOff, st]) (by simp [State.leaveTo, st])
  | tripped => exact still (by simp [Admission.without, st]) (by simp [Channel.wentOff, st]) (by simp [State.leaveTo, st])
  | locked => exact still (by simp [Admission.without, st]) (by simp [Channel.wentOff, st]) (by simp [State.leaveTo, st])
  | shed => exact still (by simp [Admission.without, st]) (by simp [Channel.wentOff, st]) (by simp [State.leaveTo, st])
  | suspended =>
    exact still (by simp [Admission.without, st]) (by simp [Channel.wentOff, st]) (by simp [State.leaveTo, st])
  | waiting => simp [State.leaveTo, Admission.without, Channel.wentOff, State.dequeue, st]
  | ramping =>
    simp [State.leaveTo, Admission.without, Channel.wentOff, State.releaseClaims, Channel.leaveAdmitted,
      Channel.presentClaim, st]
  | on =>
    simp [State.leaveTo, Admission.without, Channel.wentOff, State.releaseClaims, Channel.leaveAdmitted,
      Channel.presentClaim, st]

theorem leaveTo_setChan {s : State} {ch : Ch} (r : Channel) : (s.setChan ch r).leaveTo ch .off =
    (s.setUnit (feedOf ch) ((s.unit (feedOf ch)).without ch r)).setChan ch r.wentOff := by
  rw [leaveTo_off, State.chan_setChan_same, State.unit_setChan]
  exact State.setChan_setChan (s.setUnit _ _) ch r _

/-! ### A wish that ends, by the channel's state -/

section
variable {s : State} {ch : Ch} (examined : Bool)

theorem wishEnds_still (h : (s.chan ch).st = .off ∨ (s.chan ch).st = .tripped ∨ (s.chan ch).st = .locked) :
    s.wishEnds examined ch = s := by
  unfold State.wishEnds
  rcases h with h | h | h <;> rw [h]

theorem wishEnds_unexamined (h : (s.chan ch).st = .shed ∨ (s.chan ch).st = .suspended) :
    s.wishEnds examined ch = s.leaveTo ch .off := by
  have stays : (s.chan ch).leaveExamines = false := by
    unfold Channel.leaveExamines Channel.admitted
    rcases h with h | h <;> rw [h] <;> decide
  unfold State.wishEnds
  dsimp only
  rw [stays, Bool.and_false, if_neg Bool.false_ne_true]
  rcases h with h | h <;> rw [h]

theorem wishEnds_examined
    (h : (s.chan ch).st = .waiting ∨ (s.chan ch).st = .ramping ∨ (s.chan ch).st = .on) :
    s.wishEnds examined ch =
      if examined = true then (s.leaveTo ch .off).examine (feedOf ch) else s.leaveTo ch .off := by
  have examines : (s.chan ch).leaveExamines = true := by
    unfold Channel.leaveExamines Channel.admitted
    rcases h with h | h | h <;> rw [h] <;> decide
  unfold State.wishEnds
  dsimp only
  rw [examines, Bool.and_true]
  rcases h with h | h | h <;> rw [h]

end

/-! ### Entries recorded -/

theorem putEntry_plain {e : Entry} (h : e.flashGroup = none) (s : State) (ch : Ch) (cl : Client) :
    s.putEntry ch cl e = s.setSlot ch cl (some e) := by
  have none_ : ∀ g, State.handGroup [(ch, cl)] g (s.setSlot ch cl (some e)) = s.setSlot ch cl (some e) := fun g => by
    refine if_neg ?_
    simp [State.flashesOn, h]
  unfold State.putEntry State.handFlash
  rw [none_, none_]

theorem accepted_congr {s : State} {src : Source} {f g : State → State} (h : f (s.heard src) = g (s.heard src)) :
    s.accepted src f = s.accepted src g := by
  unfold State.accepted
  rw [h]

/-- The two states differ at most in the demand table and the flash groups. -/
def OnlyTable (s t : State) : Prop := t = { s with demand := t.demand, groups := t.groups }

theorem OnlyTable.refl (s : State) : OnlyTable s s := rfl

theorem OnlyTable.trans {s t u : State} (h : OnlyTable s t) (k : OnlyTable t u) : OnlyTable s u := by
  unfold OnlyTable at *
  rw [k, h]

theorem table_startSlot (g : Sys2Proof.Group) (ch : Ch) (cl : Client) (s : State) :
    OnlyTable s (State.startSlot g ch cl s) := by
  unfold State.startSlot
  split
  · exact rfl
  · exact rfl

theorem table_handGroup (l : List (Ch × Client)) (g : Sys2Proof.Group) (s : State) :
    OnlyTable s (State.handGroup l g s) := by
  unfold State.handGroup
  split
  · exact OnlyTable.trans (t := s.startCycle g) rfl
      (only_overSlots OnlyTable.refl OnlyTable.trans (table_startSlot g) _ _)
  · exact rfl

theorem table_handFlash (s : State) (l : List (Ch × Client)) : OnlyTable s (s.handFlash l) :=
  (table_handGroup l .a s).trans (table_handGroup l .b _)

theorem table_putEntry (s : State) (ch : Ch) (cl : Client) (e : Entry) : OnlyTable s (s.putEntry ch cl e) :=
  OnlyTable.trans (t := s.setSlot ch cl (some e)) rfl (table_handFlash _ _)

/-- The table with an input's WIRED entries in it, before they are handed to the flash generator (R46). -/
def State.wireSlots (s : State) (w : WiredInput) : State :=
  s.overChannels (fun ch t => t.setSlot ch .wired (some (t.chan ch).profile.wiredEntry)) (s.boundChannels w)

theorem table_wireSlots (s : State) (w : WiredInput) : OnlyTable s (s.wireSlots w) :=
  only_overChannels OnlyTable.refl OnlyTable.trans
    (f := fun ch t => t.setSlot ch .wired (some (t.chan ch).profile.wiredEntry)) (fun _ _ => rfl) s _

/-- Placing an input's entries touches the table, the groups and the placed sets (R46). -/
theorem placeWired_eq (s : State) (w : WiredInput) : s.placeWired w =
    { s with demand := (s.placeWired w).demand, groups := (s.placeWired w).groups, placed := (s.placeWired w).placed } := by
  have compose : ∀ {t u v : State} {p : PerInput (List Ch)}, OnlyTable s t → u = { t with placed := p } →
      OnlyTable u v → v = { s with demand := v.demand, groups := v.groups, placed := v.placed } := by
    intro t u v p wired placed handed
    unfold OnlyTable at wired handed
    rw [handed, placed, wired]
  exact compose (table_wireSlots s w) rfl (table_handFlash _ _)

theorem boundChannels_eq (s : State) (w : WiredInput) : s.boundChannels w = allChannels.filter fun ch =>
    decide ((s.chan ch).profile.bindInput = some w ∧ 0 < (s.chan ch).profile.bindDuty) := by
  unfold State.boundChannels
  refine List.filter_congr fun ch _ => ?_
  rw [Bool.decide_and]

end Sys2Proof.Machine
end

section
/-!
PROOF. Wishes that begin and end (R12 to R16, R38, R43, R54, R62).
-/
namespace Sys2Proof.Machine

variable {i : Instr}

/-! ### SET_STEADY on a channel that no other client inhibits (R37, R38, R42) -/

section
variable {s : State} {ch : Ch} {cl : Client} (duty : Nat) (free : ∀ x, x ≠ cl → s.slot ch x ≠ some .inhibit)
include free

theorem combined_steady_inhibited :
    ((s.setSlot ch cl (some (.steady duty false))).combined ch).inhibited = false := by
  rw [combined_not_inhibited_iff]
  intro x
  rw [State.slot_setSlot]
  by_cases here : ch = ch ∧ x = cl
  · rw [if_pos here]
    simp
  · rw [if_neg here]
    exact free x fun e => here ⟨rfl, e⟩

theorem combined_steady_wants : ((s.setSlot ch cl (some (.steady duty false))).combined ch).wants = true := by
  rw [combined_wants_iff, ← combined_not_inhibited_iff]
  refine ⟨combined_steady_inhibited duty free, cl, ?_⟩
  rw [State.slot_setSlot, if_pos ⟨rfl, rfl⟩]
  simp

/-- The pending duty and the wish of the entry recorded, nothing else of the channel moved. -/
theorem told_steady (other : typeOf ch ≠ .bridge) :
    (s.setSlot ch cl (some (.steady duty false))).told ch =
      (s.setSlot ch cl (some (.steady duty false))).setChan ch { s.chan ch with
        wish := true, inhibited := false
        pending := ((s.setSlot ch cl (some (.steady duty false))).combined ch).duty } := by
  unfold State.told
  rw [Channel.record_eq, combined_steady_inhibited duty free, combined_steady_wants duty free,
    if_neg fun h => other h.1, State.chan_setSlot]

end

theorem recordEntry_plain {e : Entry} (h : e.flashGroup = none) (s : State) (ch : Ch) (cl : Client) :
    s.recordEntry ch cl e = (s.setSlot ch cl (some e)).recompute true ch := by
  unfold State.recordEntry State.recomputed
  rw [putEntry_plain h]

section
variable {s : State} {src : Source} {b : Byte} {ch : Ch} {d : Half} (takes : s.Takes src) (named : NamesChannel b ch)
  (may : s.MayDemand src.client ch) (other : typeOf ch ≠ .bridge) (positive : d.toNat ≠ 0)
include takes named may other positive

theorem setSteady_positive : exec (.setSteady src b d) s = .next (s.accepted src fun u =>
    (u.setSlot ch src.client (some (.steady (min 1000 d.toNat) false))).recompute true ch) := by
  refine (setSteady_accepted takes named d other may).trans (congrArg _ (accepted_congr ?_))
  exact (if_neg (by omega)).trans (recordEntry_plain rfl _ _ _)

/-- SET_STEADY where the hand-over comes to a known state. -/
theorem setSteady_reaches {after : State → State}
    (h : ((s.heard src).setSlot ch src.client (some (.steady (min 1000 d.toNat) false))).recompute true ch =
      after (s.heard src)) : exec (.setSteady src b d) s = .next (s.accepted src after) :=
  (setSteady_positive takes named may other positive).trans (congrArg _ (accepted_congr h))

end

theorem releaseEntry_of_entry {s : State} {ch : Ch} {cl : Client} {e : Entry} (slot : s.slot ch cl = some e)
    (plain : e.isDrive = false) : s.releaseEntry cl ch = (s.setSlot ch cl none).recompute true ch := by
  have removed : s.removeEntry ch cl = (s.setSlot ch cl none).recompute true ch := by
    unfold State.removeEntry State.recomputed
    rw [slot]
  unfold State.releaseEntry
  rw [slot]
  cases e with
  | drive => cases plain
  | _ => exact removed

/-! ### A wish that begins -/

/-- A wish that begins in OFF, by the feed's state and the channel's class (R14, R54, R62). -/
theorem wishBegins_off {s : State} {ch : Ch} (off : (s.chan ch).st = .off) : s.wishBegins ch = s.start ch := if_pos off

theorem wishBegins_still {s : State} {ch : Ch} (h : (s.chan ch).st ≠ .off) : s.wishBegins ch = s := if_neg h

section
variable {s : State} {ch : Ch} (examined : Bool) (wish : (s.chan ch).wish = false)
  (wants : (s.combined ch).wants = true) (off : (s.chan ch).st = .off)
include wish wants off

theorem recompute_starts : s.recompute examined ch = (s.told ch).start ch :=
  (recompute_begins examined wish wants).trans (wishBegins_off (by rw [chan_told]; exact off))

theorem recompute_suspends (h : (s.monitor (feedOf ch)).st = .cut ∨
    ((s.monitor (feedOf ch)).st = .surge ∧ 2 ≤ (s.chan ch).profile.cls)) :
    s.recompute examined ch = (s.told ch).setChan ch { (s.told ch).chan ch with st := .suspended } :=
  (recompute_starts examined wish wants off).trans (start_suspended (by rw [chan_told]; exact h))

theorem recompute_bypasses (h : (s.monitor (feedOf ch)).st ≠ .cut) (cls : (s.chan ch).profile.cls = 0) :
    s.recompute examined ch = (s.told ch).admitChannel ch :=
  (recompute_starts examined wish wants off).trans (start_bypass h (by rw [chan_told]; exact cls))

theorem recompute_queues (h : (s.monitor (feedOf ch)).st ≠ .cut)
    (ok : ¬ ((s.monitor (feedOf ch)).st = .surge ∧ 2 ≤ (s.chan ch).profile.cls))
    (cls : (s.chan ch).profile.cls ≠ 0) :
    s.recompute examined ch = ((s.told ch).place ch).examine (feedOf ch) :=
  (recompute_starts examined wish wants off).trans
    (start_waiting h (by rw [chan_told]; exact ok) (by rw [chan_told]; exact cls))

end

/-- A channel's record as the hand-over of a demand leaves it, the state aside. -/
theorem told_eq_of_record {s : State} {ch : Ch} {r : Channel} (h : (s.chan ch).record (typeOf ch) (s.combined ch) = r) :
    s.told ch = s.setChan ch r := congrArg (s.setChan ch) h

/-- Settles O14. -/
theorem wishesBeginByTheState : Obligations.WishesBeginByTheState := by
  unfold Obligations.WishesBeginByTheState
  refine ⟨fun ch examined s => ?_, fun src b gb k d n ch g e w s => ?_, fun src b d ch s takes named may other => ?_,
    fun src b d ch s takes named may other => ?_⟩
  · intro f c d cls fs r told t same u freed off gone
    have recorded : (s.chan ch).record (typeOf ch) (s.combined ch) = r := Channel.record_eq _ _ _
    have told_eq : s.told ch = told := told_eq_of_record recorded
    have chan_eq : told.chan ch = r := State.chan_setChan_same s ch r
    have told_st : ((s.told ch).chan ch).st = c.st := by rw [chan_told]; rfl
    have gone_eq : (s.told ch).leaveTo ch .off = gone := by
      rw [told_eq]
      exact leaveTo_setChan r
    refine ⟨fun ⟨duty, inhibited, wants⟩ => recompute_of_same examined duty inhibited wants, fun change wants => ?_,
      fun wish wants => ⟨fun other => ?_, fun isOff => ⟨fun suspends => ?_, fun cut bypass => ?_,
        fun cut surge queued => ?_⟩⟩, fun wish wants => ⟨fun still => ?_, fun rests => ?_, fun left => ?_⟩⟩
    · exact (recompute_of_sameWish examined change wants).trans told_eq
    · exact (recompute_begins examined wish wants).trans
        ((wishBegins_still (by rw [told_st]; exact other)).trans told_eq)
    · rw [show t = _ from recompute_suspends examined wish wants isOff suspends, told_eq, chan_eq]
    · rw [show t = _ from recompute_bypasses examined wish wants isOff cut bypass, told_eq]
    · rw [show t = _ from recompute_queues examined wish wants isOff cut surge (Nat.one_le_iff_ne_zero.mp queued),
        told_eq]
      unfold State.place
      rw [chan_eq]
      exact rfl
    · exact (recompute_ends examined wish wants).trans
        ((wishEnds_still examined (by rw [told_st]; exact still)).trans told_eq)
    · exact (recompute_ends examined wish wants).trans
        ((wishEnds_unexamined examined (by rw [told_st]; exact rests)).trans gone_eq)
    · rw [show t = _ from recompute_ends examined wish wants,
        wishEnds_examined examined (by rw [told_st]; exact left), gone_eq]
  · intro cl duty placed put outcome
    refine ⟨fun takes named => ⟨fun may other => ⟨fun positive => ?_, ?_⟩, fun may lamp side => ?_, fun slot => ?_⟩,
      ?_, table_putEntry s ch cl e, placeWired_eq s w⟩
    · exact setSteady_positive takes named may other positive
    · refine (setTimed_accepted takes named d n other may).trans (congrArg _ (accepted_congr ?_))
      exact recordEntry_plain rfl _ _ _
    · exact setFlash_accepted takes named d k lamp side may
    · refine (release_accepted takes named).trans (congrArg _ (accepted_congr ?_))
      exact releaseEntry_of_entry (by rw [heard_slot]; exact slot) rfl
    · unfold State.activateInput State.overChannels
      rw [boundChannels_eq]
      exact rfl
  · intro positive free recordsOnly
    refine setSteady_reaches takes named may other positive ?_
    have free' : ∀ cl, cl ≠ src.client → (s.heard src).slot ch cl ≠ some .inhibit := fun cl hcl => by
      rw [heard_slot]; exact free cl hcl
    have wants := combined_steady_wants (min 1000 d.toNat) free'
    refine Eq.trans ?_ (told_steady (min 1000 d.toNat) free' other)
    rcases recordsOnly with wish | still
    · refine recompute_tells true other (wants.trans ?_)
      rw [State.chan_setSlot, heard_chan, wish]
    · cases wish : (s.chan ch).wish with
      | true =>
        refine recompute_tells true other (wants.trans ?_)
        rw [State.chan_setSlot, heard_chan, wish]
      | false =>
        refine (recompute_begins true ?_ wants).trans (wishBegins_still ?_)
        · rw [State.chan_setSlot, heard_chan, wish]
        · rw [chan_told, Channel.record_st, State.chan_setSlot, heard_chan]
          rcases still with h | h <;> rw [h] <;> decide
  · intro positive free wish off f cls fs told
    have free' : ∀ cl, cl ≠ src.client → (s.heard src).slot ch cl ≠ some .inhibit := fun cl hcl => by
      rw [heard_slot]; exact free cl hcl
    have wants := combined_steady_wants (min 1000 d.toNat) free'
    have told_eq : ((s.heard src).setSlot ch src.client (some (.steady (min 1000 d.toNat) false))).told ch =
        told (s.heard src) := told_steady (min 1000 d.toNat) free' other
    have wish' : (((s.heard src).setSlot ch src.client (some (.steady (min 1000 d.toNat) false))).chan ch).wish =
        false := by rw [State.chan_setSlot, heard_chan, wish]
    have off' : (((s.heard src).setSlot ch src.client (some (.steady (min 1000 d.toNat) false))).chan ch).st =
        .off := by rw [State.chan_setSlot, heard_chan, off]
    refine ⟨fun suspends => ?_, fun cut bypass => ?_, fun cut surge queued => ?_⟩
    all_goals refine setSteady_reaches takes named may other positive ?_
    · rw [← told_eq]
      refine recompute_suspends true wish' wants off' ?_
      rw [State.monitor_setSlot, heard_monitor, State.chan_setSlot, heard_chan]
      exact suspends
    · rw [← told_eq]
      refine recompute_bypasses true wish' wants off' ?_ ?_
      · rw [State.monitor_setSlot, heard_monitor]; exact cut
      · rw [State.chan_setSlot, heard_chan]; exact bypass
    · refine (recompute_queues true wish' wants off' ?_ ?_ ?_).trans ?_
      · rw [State.monitor_setSlot, heard_monitor]; exact cut
      · rw [State.monitor_setSlot, heard_monitor, State.chan_setSlot, heard_chan]; exact surge
      · rw [State.chan_setSlot, heard_chan]; exact Nat.one_le_iff_ne_zero.mp queued
      · rw [told_eq]
        refine congrArg (fun t : State => t.examine f) ?_
        unfold State.place
        have profile : ((told (s.heard src)).chan ch).profile.cls = cls := by
          rw [State.chan_setChan_same, heard_chan]
        rw [profile]

end Sys2Proof.Machine
end

section
/-!
PROOF. What an examination leaves alone, and SET_INHIBIT (R38, R42, R44, R16, R56, R58).
-/
namespace Sys2Proof.Machine

variable {i : Instr}

/-! ### What an examination leaves alone (R58, R59) -/

theorem chan_countAdmission_resting {s : State} {f : Feed} {x : Ch} (resting : (s.chan x).admitted = false) :
    (s.countAdmission f).chan x = s.chan x := by
  unfold State.countAdmission
  dsimp only
  split
  · rfl
  · refine (chan_restamp (s.renumbered f) _ (admittedOf_nodup s f) s x).trans (if_neg fun mem => ?_)
    exact absurd ((Channel.admitted_iff _).mpr (mem_admittedOf.mp mem).2) (by simp [resting])

theorem chan_admitChannel_resting {s : State} {ch x : Ch} (other : x ≠ ch) (resting : (s.chan x).admitted = false) :
    (s.admitChannel ch).chan x = s.chan x := by
  unfold State.admitChannel
  dsimp only
  rw [chan_enterRamping, if_neg other]
  exact chan_countAdmission_resting (s := s.addClaims ch) resting

theorem unit_admitChannel_other (s : State) {ch : Ch} {g : Feed} (other : g ≠ feedOf ch) :
    (s.admitChannel ch).unit g = s.unit g := by
  obtain ⟨n, unit⟩ := unit_admitChannel s ch
  rw [unit, if_neg other]

/-- What an examination of a feed leaves as it was: the other feed's unit, the channels outside its queue that
hold no claim; the queue only loses heads. -/
def State.ExaminedTo (s : State) (f : Feed) (t : State) : Prop :=
  (∀ g, g ≠ f → t.unit g = s.unit g) ∧ (t.unit f).queue <:+ (s.unit f).queue ∧
    ∀ x, (∀ e ∈ (s.unit f).queue, e.ch ≠ x) → (s.chan x).admitted = false → t.chan x = s.chan x

theorem examinedTo_examine {s : State} {f : Feed} (own : ∀ e ∈ (s.unit f).queue, feedOf e.ch = f) :
    s.ExaminedTo f (s.examine f) := by
  induction n : (s.unit f).queue.length generalizing s with
  | zero =>
    rw [examine_of_empty (List.length_eq_zero_iff.mp n)]
    exact ⟨fun _ _ => rfl, List.suffix_rfl, fun _ _ _ => rfl⟩
  | succ m ih =>
    obtain ⟨e, rest, queue⟩ := List.exists_cons_of_length_eq_add_one n
    have first : (s.unit f).queue.head? = some e := by rw [queue]; rfl
    cases judged : s.fits f e with
    | false =>
      rw [examine_of_blocked first judged]
      exact ⟨fun _ _ => rfl, List.suffix_rfl, fun _ _ _ => rfl⟩
    | true =>
      have left : ((s.admitHead f e).unit f).queue = rest := by rw [queue_admitHead, queue]; rfl
      have feed : feedOf e.ch = f := own e (by rw [queue]; exact List.mem_cons_self)
      have shorter : ((s.admitHead f e).unit f).queue.length = m := by
        rw [left]
        rw [queue, List.length_cons] at n
        exact Nat.succ.inj n
      obtain ⟨units, suffix, chans⟩ := ih
        (fun x hx => own x (by rw [queue]; exact List.mem_cons_of_mem e (left ▸ hx))) shorter
      rw [examine_of_fitting first judged]
      refine ⟨fun g other => ?_, ?_, fun x fresh resting => ?_⟩
      · rw [units g other]
        unfold State.admitHead
        rw [unit_admitChannel_other _ (by rw [feed]; exact other), State.unit_setUnit, if_neg other]
      · rw [queue]
        exact (left ▸ suffix).trans (List.suffix_cons e rest)
      · have other : x ≠ e.ch := fun h => fresh e (by rw [queue]; exact List.mem_cons_self) h.symm
        have kept : (s.admitHead f e).chan x = s.chan x := chan_admitChannel_resting other resting
        rw [chans x (fun y hy => fresh y (by rw [queue]; exact List.mem_cons_of_mem e (left ▸ hy)))
          (by rw [kept]; exact resting), kept]

/-! ### A wish that ends, with the queue in agreement (R16, R56) -/

/-- Every entry of a feed's queue stands for a WAITING channel of the feed (R54). -/
def State.QueueWaits (s : State) (f : Feed) : Prop :=
  ∀ e ∈ (s.unit f).queue, feedOf e.ch = f ∧ (s.chan e.ch).st = .waiting

theorem State.AdmissionKept.queueWaits {s : State} (h : s.AdmissionKept) (f : Feed) : s.QueueWaits f := fun e he => by
  obtain ⟨⟨entries, _⟩, _⟩ := h.1 f
  obtain ⟨feed, waiting, _⟩ := entries e he
  exact ⟨feed, waiting⟩

/-- A channel's record behind the end of its wish (R16). -/
def Channel.wishEnded (c : Channel) : Channel :=
  match c.st with
  | .off => c
  | .tripped => c
  | .locked => c
  | _ => c.wentOff

theorem Channel.wentOff_st (c : Channel) : c.wentOff.st = .off := by
  unfold Channel.wentOff
  split <;> rfl

theorem queue_without (u : Admission) (ch : Ch) (c : Channel) : (u.without ch c).queue =
    if c.st = .waiting then u.queue.filter fun e => e.ch ≠ ch else u.queue := by
  unfold Admission.without
  cases st : c.st <;> simp

/-- What the end of a channel's wish comes to: its record, the other feed's unit, and no place in the queue. -/
def State.WishEndedTo (s : State) (ch : Ch) (t : State) : Prop :=
  t.chan ch = (s.chan ch).wishEnded ∧ (∀ g, g ≠ feedOf ch → t.unit g = s.unit g) ∧
    ∀ e ∈ (t.unit (feedOf ch)).queue, e.ch ≠ ch

theorem wishEndedTo_leaveTo {s : State} {ch : Ch} (kept : s.QueueWaits (feedOf ch))
    (ends : (s.chan ch).wishEnded = (s.chan ch).wentOff) : s.WishEndedTo ch (s.leaveTo ch .off) := by
  rw [leaveTo_off]
  refine ⟨(State.chan_setChan_same _ _ _).trans ends.symm, fun g other => ?_, fun e he => ?_⟩
  · rw [State.unit_setChan, State.unit_setUnit, if_neg other]
  · rw [State.unit_setChan, State.unit_setUnit_same, queue_without] at he
    split at he
    · simpa using (List.mem_filter.mp he).2
    next running => exact fun here => running (here ▸ (kept e he).2)

theorem wishEndedTo_examined {s : State} {ch : Ch} (kept : s.QueueWaits (feedOf ch))
    (ends : (s.chan ch).wishEnded = (s.chan ch).wentOff) :
    s.WishEndedTo ch ((s.leaveTo ch .off).examine (feedOf ch)) := by
  obtain ⟨chan, units, fresh⟩ := wishEndedTo_leaveTo kept ends
  have own : ∀ e ∈ ((s.leaveTo ch .off).unit (feedOf ch)).queue, feedOf e.ch = feedOf ch := fun e he => by
    rw [leaveTo_off, State.unit_setChan, State.unit_setUnit_same, queue_without] at he
    split at he
    · exact (kept e (List.mem_filter.mp he).1).1
    · exact (kept e he).1
  obtain ⟨others, suffix, chans⟩ := examinedTo_examine own
  have resting : ((s.leaveTo ch .off).chan ch).admitted = false := by
    rw [chan, ends]
    unfold Channel.admitted
    rw [Channel.wentOff_st]
    rfl
  exact ⟨(chans ch fresh resting).trans chan, fun g other => (others g other).trans (units g other),
    fun e he => fresh e (suffix.subset he)⟩

theorem wishEndedTo_wishEnds {s : State} {ch : Ch} (examined : Bool) (kept : s.QueueWaits (feedOf ch)) :
    s.WishEndedTo ch (s.wishEnds examined ch) := by
  have still : (s.chan ch).st = .off ∨ (s.chan ch).st = .tripped ∨ (s.chan ch).st = .locked →
      s.WishEndedTo ch (s.wishEnds examined ch) := fun h => by
    rw [wishEnds_still examined h]
    refine ⟨?_, fun _ _ => rfl, fun e he here => ?_⟩
    · unfold Channel.wishEnded
      rcases h with h | h | h <;> rw [h]
    · have waits := (kept e he).2
      rw [here] at waits
      rcases h with h | h | h <;> rw [h] at waits <;> cases waits
  have rests : (s.chan ch).st = .shed ∨ (s.chan ch).st = .suspended → s.WishEndedTo ch (s.wishEnds examined ch) := fun h => by
    rw [wishEnds_unexamined examined h]
    refine wishEndedTo_leaveTo kept ?_
    unfold Channel.wishEnded
    rcases h with h | h <;> rw [h]
  have leaves : (s.chan ch).st = .waiting ∨ (s.chan ch).st = .ramping ∨ (s.chan ch).st = .on →
      s.WishEndedTo ch (s.wishEnds examined ch) := fun h => by
    have ends : (s.chan ch).wishEnded = (s.chan ch).wentOff := by
      unfold Channel.wishEnded
      rcases h with h | h | h <;> rw [h]
    rw [wishEnds_examined examined h]
    split
    · exact wishEndedTo_examined kept ends
    · exact wishEndedTo_leaveTo kept ends
  cases st : (s.chan ch).st with
  | off => exact still (.inl st)
  | tripped => exact still (.inr (.inl st))
  | locked => exact still (.inr (.inr st))
  | shed => exact rests (.inl st)
  | suspended => exact rests (.inr st)
  | waiting => exact leaves (.inl st)
  | ramping => exact leaves (.inr (.inl st))
  | on => exact leaves (.inr (.inr st))

/-! ### SET_INHIBIT -/

theorem combined_of_inhibit {s : State} {ch : Ch} {cl : Client} (h : s.slot ch cl = some .inhibit) :
    s.combined ch = ⟨true, false, 0⟩ := by
  have inhibited : (s.combined ch).inhibited = true := (combined_inhibited_iff s ch).mpr ⟨cl, h⟩
  have wants : (s.combined ch).wants = false := by rw [combined_wants_eq, inhibited]; rfl
  have duty : (s.combined ch).duty = 0 := by rw [combined_duty_eq, inhibited]; rfl
  calc s.combined ch = ⟨(s.combined ch).inhibited, (s.combined ch).wants, (s.combined ch).duty⟩ := rfl
    _ = ⟨true, false, 0⟩ := by rw [inhibited, wants, duty]

/-- An entry that is not FLASH changes, with its hand-over, nothing beyond the demands but the admission of its
channel. -/
theorem recompute_setSlot_beyond (s : State) (ch : Ch) (cl : Client) (e : Option Entry) :
    s.SameBeyondDemands ((s.setSlot ch cl e).recompute true ch) :=
  sameBeyond_of ((only_setSlot _ _ _ _).trans (only_recompute _ true ch).toDemand) (only_recompute _ true ch).placed
    ((handed_of_chans (t := s.setSlot ch cl e) rfl).learned.trans (recompute_learned _ _ ch))

/-- Settles O15. -/
theorem inhibitEndsTheWish : Obligations.InhibitEndsTheWish := by
  unfold Obligations.InhibitEndsTheWish
  intro src b ch s takes named may kept wish u c
  set v := u.setSlot ch src.client (some .inhibit) with hv
  have chan : v.chan ch = s.chan ch := heard_chan s src ch
  have inhibit : v.combined ch = ⟨true, false, 0⟩ := combined_of_inhibit (cl := src.client)
    (by rw [hv, State.slot_setSlot, if_pos ⟨rfl, rfl⟩])
  have ended : v.recompute true ch = (v.told ch).wishEnds true ch :=
    recompute_ends true (by rw [chan, wish]) (by rw [inhibit])
  have told : (v.told ch).chan ch = { c with
      applied := if typeOf ch = .bridge ∧ (c.st = .ramping ∨ c.st = .on) then 0 else c.applied } := by
    rw [chan_told, Channel.record_eq, inhibit, chan]
  have told_st : ((v.told ch).chan ch).st = (s.chan ch).st := by rw [told]
  have waits : (v.told ch).QueueWaits (feedOf ch) := fun e he => by
    have mem : e ∈ (s.unit (feedOf ch)).queue := heard_unit s src _ ▸ he
    obtain ⟨feed, waiting⟩ := kept.queueWaits _ e mem
    refine ⟨feed, ?_⟩
    by_cases here : e.ch = ch
    · rw [here, told_st, ← here, waiting]
    · unfold State.told
      rw [State.chan_setChan, if_neg here, hv, State.chan_setSlot, heard_chan, waiting]
  obtain ⟨ends, units, fresh⟩ := wishEndedTo_wishEnds true waits
  have slot : ∀ x y, (v.recompute true ch).slot x y = v.slot x y := fun x y => by
    unfold State.slot
    rw [(only_recompute v true ch).demand]
  have outcome : exec (.setInhibit src b) s = .next (v.recompute true ch).noteAccepted.handRest := by
    rw [setInhibit_accepted takes named may, accepted_eq, recordEntry_plain rfl]
  have groups : (v.recompute true ch).groups = s.groups :=
    (only_recompute v true ch).groups.trans (heard_groups s src)
  have ports : (v.recompute true ch).ports = u.ports := (only_recompute v true ch).ports
  have wishes : ∀ x, x ≠ ch → u.SameWish (v.recompute true ch) x := fun x hx => recompute_sameWish v true ch x hx
  have beyond : u.SameBeyondDemands (v.recompute true ch) := recompute_setSlot_beyond u ch _ _
  rw [← ended] at ends units fresh
  generalize v.recompute true ch = t at *
  refine ⟨_, outcome, ?_, fun x y other => ?_, ?_, wishes, fun f hf => ?_, fresh, groups, ports, rfl,
    restHanded_handRest _, sameBeyond_ended beyond⟩
  · refine (slot ch src.client).trans ?_
    rw [hv, State.slot_setSlot, if_pos ⟨rfl, rfl⟩]
  · refine (slot x y).trans ?_
    rw [hv, State.slot_setSlot, if_neg other, heard_slot]
  · refine ends.trans ?_
    rw [told]
    unfold Channel.wishEnded Channel.wentOff
    cases st : (s.chan ch).st <;> simp [c, st]
  · exact (units f hf).trans (heard_unit s src f)

end Sys2Proof.Machine
end

section
/-!
PROOF. Entries removed: RELEASE and TIMED_EXPIRY (R37, R39 to R41, R43).
-/
namespace Sys2Proof.Machine

variable {i : Instr}

theorem combined_of_slots {s t : State} {ch : Ch} (slots : ∀ cl, t.slot ch cl = s.slot ch cl)
    (groups : t.groups = s.groups) : t.combined ch = s.combined ch := by
  have entries : t.entries ch = s.entries ch := List.filterMap_congr fun cl _ => slots cl
  unfold State.combined
  rw [entries, groups]

theorem sameBeyond_trans {s t u : State} (h : s.SameBeyondDemands t) (k : t.SameBeyondDemands u) :
    s.SameBeyondDemands u := by
  obtain ⟨h1, h2, h3, h4, h5, h6, h7, h8, h9, hc⟩ := h
  obtain ⟨k1, k2, k3, k4, k5, k6, k7, k8, k9, kc⟩ := k
  exact ⟨k1.trans h1, k2.trans h2, k3.trans h3, k4.trans h4, k5.trans h5, k6.trans h6, k7.trans h7, k8.trans h8,
    k9.trans h9, fun ch => (hc ch).trans (kc ch)⟩

/-- What removing a client's entries on chosen channels comes to (R40, R43): their slots empty, each channel that
held one handed its combined demand, the rest as it was. -/
def State.RemovedTo (s : State) (cl : Client) (chosen : Ch → Prop) (t : State) : Prop :=
  (∀ x, chosen x → t.slot x cl = none) ∧ (∀ x y, ¬ (chosen x ∧ y = cl) → t.slot x y = s.slot x y) ∧
    (∀ x, chosen x → s.slot x cl ≠ none → t.HandedOver x) ∧
    (∀ x, ¬ (chosen x ∧ s.slot x cl ≠ none) → s.SameWish t x) ∧
    t.groups = s.groups ∧ t.ports = s.ports ∧ s.SameBeyondDemands t

theorem removedTo_removeEntry (s : State) (ch : Ch) (cl : Client) :
    s.RemovedTo cl (fun x => x = ch) (s.removeEntry ch cl) := by
  have slot := removeEntry_slot s ch cl
  cases held : s.slot ch cl with
  | none =>
    have same : s.removeEntry ch cl = s := by unfold State.removeEntry; rw [held]
    rw [same]
    exact ⟨fun x hx => hx ▸ held, fun _ _ _ => rfl, fun x hx stands => absurd (hx ▸ held) stands,
      fun _ _ => ⟨rfl, rfl, rfl⟩, rfl, rfl,
      sameBeyond_of (.refl s) rfl (handed_of_chans rfl).learned⟩
  | some e =>
    have removed : s.removeEntry ch cl = (s.setSlot ch cl none).recompute true ch := by
      unfold State.removeEntry State.recomputed; rw [held]
    have only := only_recompute (s.setSlot ch cl none) true ch
    refine ⟨fun x hx => by rw [slot, if_pos ⟨hx, rfl⟩], fun x y other => by rw [slot, if_neg other], ?_, ?_, ?_, ?_, ?_⟩
    all_goals rw [removed]
    · rintro x rfl _
      exact recompute_handedOver _ true x
    · intro x other
      exact recompute_sameWish (s.setSlot ch cl none) true ch x
        fun hx => other ⟨hx, by rw [hx, held]; exact Option.some_ne_none e⟩
    · exact only.groups
    · exact only.ports
    · exact recompute_setSlot_beyond s ch cl none

theorem removedTo_refl (s : State) (cl : Client) : s.RemovedTo cl (fun _ => False) s :=
  ⟨fun _ => False.elim, fun _ _ _ => rfl, fun _ => False.elim, fun _ _ => ⟨rfl, rfl, rfl⟩, rfl, rfl,
    sameBeyond_of (.refl s) rfl (handed_of_chans rfl).learned⟩

/-- Removals follow one another: a channel handed over stays so, its entries and its wish untouched. -/
theorem State.RemovedTo.trans {s t u : State} {cl : Client} {p q : Ch → Prop} (h : s.RemovedTo cl p t)
    (k : t.RemovedTo cl q u) : s.RemovedTo cl (fun x => p x ∨ q x) u := by
  obtain ⟨empty, others, handed, same, groups, ports, beyond⟩ := h
  obtain ⟨empty', others', handed', same', groups', ports', beyond'⟩ := k
  refine ⟨fun x hx => ?_, fun x y hxy => ?_, fun x hx stands => ?_, fun x rests => ?_, groups'.trans groups,
    ports'.trans ports, sameBeyond_trans beyond beyond'⟩
  · by_cases hq : q x
    · exact empty' x hq
    · rw [others' x cl fun c => hq c.1]
      exact empty x (hx.resolve_right hq)
  · rw [others' x y fun c => hxy ⟨.inr c.1, c.2⟩, others x y fun c => hxy ⟨.inl c.1, c.2⟩]
  · by_cases hp : p x
    · have gone := empty x hp
      have slots : ∀ y, u.slot x y = t.slot x y := fun y => by
        by_cases hq : q x ∧ y = cl
        · rw [hq.2, gone, empty' x hq.1]
        · exact others' x y hq
      have wish := same' x fun c => c.2 gone
      obtain ⟨pending, wants, inhibited⟩ := wish
      obtain ⟨duty, wishes, inhibits⟩ := handed x hp stands
      unfold State.HandedOver
      rw [combined_of_slots slots groups', pending, wants, inhibited]
      exact ⟨duty, wishes, inhibits⟩
    · exact handed' x (hx.resolve_left hp) (by rw [others x cl fun c => hp c.1]; exact stands)
  · refine SameWish.trans (same x fun c => rests ⟨.inl c.1, c.2⟩) (same' x fun c => ?_)
    by_cases hp : p x
    · exact c.2 (empty x hp)
    · exact rests ⟨.inr c.1, by rw [← others x cl fun d => hp d.1]; exact c.2⟩

theorem State.RemovedTo.congr {s t : State} {cl : Client} {p q : Ch → Prop} (h : s.RemovedTo cl p t)
    (same : ∀ x, p x ↔ q x) : s.RemovedTo cl q t := funext (fun x => propext (same x)) ▸ h

theorem removedTo_removeEntries (cl : Client) (l : List Ch) (s : State) :
    s.RemovedTo cl (fun x => x ∈ l) (l.foldl (fun t x => t.removeEntry x cl) s) := by
  induction l generalizing s with
  | nil => exact (removedTo_refl s cl).congr fun x => by simp
  | cons ch l ih =>
    rw [List.foldl_cons]
    exact ((removedTo_removeEntry s ch cl).trans (ih _)).congr fun x => by simp

/-! ### RELEASE (R37, R39, R40) -/

theorem releaseEntry_plain {s : State} {ch : Ch} {cl : Client}
    (plain : ((s.slot ch cl).map Entry.isDrive).getD false = false) : s.releaseEntry cl ch = s.removeEntry ch cl := by
  unfold State.releaseEntry
  split
  next slot => rw [slot] at plain; cases plain
  next => rfl

theorem releaseEntry_drive {s : State} {ch : Ch} {cl : Client}
    (drive : ((s.slot ch cl).map Entry.isDrive).getD false = true) :
    s.releaseEntry cl ch = s.endEntry ch cl .released := by
  unfold State.releaseEntry
  split
  next => rfl
  next other =>
    cases held : s.slot ch cl with
    | none => rw [held] at drive; cases drive
    | some e =>
      rw [held] at drive
      obtain ⟨dir, n, m, rfl⟩ := (Entry.isDrive_iff e).mp drive
      exact absurd held (other dir n m)

theorem releaseEntries_plain (cl : Client) (l : List Ch) (s : State)
    (plain : ∀ x, ((s.slot x cl).map Entry.isDrive).getD false = false) :
    l.foldl (fun t x => t.releaseEntry cl x) s = l.foldl (fun t x => t.removeEntry x cl) s := by
  induction l generalizing s with
  | nil => rfl
  | cons ch l ih =>
    rw [List.foldl_cons, List.foldl_cons, releaseEntry_plain (plain ch)]
    refine ih _ fun x => ?_
    rw [removeEntry_slot]
    split
    · rfl
    · exact plain x

/-- A RELEASE that removes entries alone, as its outcome is read. -/
theorem release_removes {s : State} {src : Source} {c : Instr} {effect : State → State} {chosen : Ch → Prop}
    (outcome : exec c s = .next (s.accepted src effect))
    (removed : (s.heard src).RemovedTo src.client chosen (effect (s.heard src))) :
    ∃ t, exec c s = .next t ∧
      (∀ x, chosen x → t.slot x src.client = none) ∧
      (∀ x y, ¬ (chosen x ∧ y = src.client) → t.slot x y = s.slot x y) ∧
      (∀ x, chosen x → s.slot x src.client ≠ none → t.HandedOver x) ∧
      (∀ x, ¬ (chosen x ∧ s.slot x src.client ≠ none) → (s.heard src).SameWish t x) ∧
      t.groups = s.groups ∧ t.ports = (s.heard src).ports ∧ t.quiet = some 0 ∧ t.RestHanded ∧
      (s.heard src).SameBeyondDemands t := by
  obtain ⟨empty, others, handed, same, groups, ports, beyond⟩ := removed
  have slot := fun x y => heard_slot s src x y
  rw [accepted_eq] at outcome
  generalize effect (s.heard src) = t at *
  refine ⟨_, outcome, empty, fun x y hxy => (others x y hxy).trans (slot x y), fun x hx stands => ?_,
    fun x rests => ?_, groups.trans (heard_groups s src), ports, rfl, restHanded_handRest _, sameBeyond_ended beyond⟩
  · exact handedOver_ended (handed x hx (by rw [slot]; exact stands))
  · exact sameWish_ended (same x (by rw [slot]; exact rests))

/-- Settles O16. -/
theorem entriesAreRemoved : Obligations.EntriesAreRemoved := by
  unfold Obligations.EntriesAreRemoved
  refine ⟨fun src b ch s takes => ?_, fun ch cl d ms s running slot => ?_⟩
  · intro u noDrive removes
    refine ⟨?_, fun drive => releaseEntry_drive (by simpa [noDrive] using drive), fun named => ⟨release_accepted takes named,
      fun plain => ?_, fun empty => ?_, fun other may => ?_⟩⟩
    · rintro rfl
      refine ⟨releaseAll_accepted takes, fun plain => release_removes (releaseAll_accepted takes) ?_⟩
      rw [releaseEntries_plain src.client allChannels _ fun x => by rw [heard_slot]; exact plain x]
      exact (removedTo_removeEntries src.client allChannels _).congr fun x => by simp [mem_allChannels]
    · refine release_removes (release_accepted takes named) ?_
      rw [releaseEntry_plain (by rw [heard_slot]; exact plain)]
      exact removedTo_removeEntry _ ch src.client
    · refine (release_accepted takes named).trans (congrArg _ (accepted_congr ?_))
      have empty' : (s.heard src).slot ch src.client = none := by rw [heard_slot, empty]
      rw [releaseEntry_plain (by rw [empty']; rfl)]
      unfold State.removeEntry
      rw [empty']
    · rw [release_accepted takes named, setSteady_accepted takes named 0 other may]
      exact rfl
  · intro u
    obtain ⟨empty, others, handed, same, groups, ports, beyond⟩ := removedTo_removeEntry s ch cl
    have due : s.timedDue ch cl = true := by unfold State.timedDue; rw [slot]; rfl
    refine ⟨congrArg _ (run_due s _ (State.expireTimed ch cl) running due), empty ch rfl, others,
      handed ch rfl (by rw [slot]; simp), fun x hx => same x fun c => hx c.1, groups, ports,
      (only_removeEntry s ch cl).toBlocks.quiet, beyond⟩

end Sys2Proof.Machine
end

section
/-!
PROOF. FLASH entries handed to the flash generator (R107, R108, R110), and the requests that record an entry
(R37, R38, R43).
-/
namespace Sys2Proof.Machine

variable {i : Instr}

/-! ### Entries of a group, started -/

/-- An entry as the start of a group leaves it (R107 step 3). -/
def Entry.startOn (g : Sys2Proof.Group) (e : Entry) : Entry := if e.flashGroup = some g then e.start else e

theorem Entry.flashGroup_start (e : Entry) : e.start.flashGroup = e.flashGroup := by cases e <;> rfl

theorem Entry.start_start (e : Entry) : e.start.start = e.start := by cases e <;> rfl

theorem Entry.flashGroup_startOn (g : Sys2Proof.Group) (e : Entry) : (e.startOn g).flashGroup = e.flashGroup := by
  unfold Entry.startOn
  split
  · exact e.flashGroup_start
  · rfl

theorem Entry.startOn_startOn (g : Sys2Proof.Group) (e : Entry) : (e.startOn g).startOn g = e.startOn g := by
  unfold Entry.startOn
  by_cases h : e.flashGroup = some g
  · rw [if_pos h, if_pos (by rw [e.flashGroup_start, h]), e.start_start]
  · rw [if_neg h, if_neg h]

theorem slot_startSlot (g : Sys2Proof.Group) (ch : Ch) (cl : Client) (s : State) (x : Ch) (y : Client) :
    (State.startSlot g ch cl s).slot x y =
      if x = ch ∧ y = cl then (s.slot x y).map (Entry.startOn g) else s.slot x y := by
  unfold State.startSlot
  split
  next flashes =>
    obtain ⟨e, slot, group⟩ := (flashesOn_iff _ _ _ _).mp flashes
    rw [State.slot_setSlot]
    by_cases here : x = ch ∧ y = cl
    · obtain ⟨rfl, rfl⟩ := here
      rw [if_pos ⟨rfl, rfl⟩, if_pos ⟨rfl, rfl⟩, slot, Option.map_some, Option.map_some, Entry.startOn, if_pos group]
    · rw [if_neg here, if_neg here]
  next quiet =>
    by_cases here : x = ch ∧ y = cl
    · obtain ⟨rfl, rfl⟩ := here
      rw [if_pos ⟨rfl, rfl⟩]
      cases slot : s.slot x y with
      | none => rfl
      | some e =>
        rw [Option.map_some, Entry.startOn, if_neg fun group => quiet ((flashesOn_iff _ _ _ _).mpr ⟨e, slot, group⟩)]
    · rw [if_neg here]

theorem slot_startSlots (g : Sys2Proof.Group) (l : List (Ch × Client)) (s : State) (x : Ch) (y : Client) :
    (s.overSlots (State.startSlot g) l).slot x y =
      if (x, y) ∈ l then (s.slot x y).map (Entry.startOn g) else s.slot x y := by
  unfold State.overSlots
  induction l generalizing s with
  | nil => rfl
  | cons p l ih =>
    obtain ⟨ch, cl⟩ := p
    rw [List.foldl_cons, ih, slot_startSlot]
    by_cases here : x = ch ∧ y = cl
    · obtain ⟨rfl, rfl⟩ := here
      have twice : Entry.startOn g ∘ Entry.startOn g = Entry.startOn g := funext fun e => e.startOn_startOn g
      simp [Option.map_map, twice]
    · have other : (x, y) ≠ (ch, cl) := fun eq => here (Prod.mk.inj eq)
      rw [if_neg here]
      simp [other]

/-- The marks alone are set. -/
theorem only_startSlots (g : Sys2Proof.Group) (l : List (Ch × Client)) (s : State) :
    s.overSlots (State.startSlot g) l = { s with demand := (s.overSlots (State.startSlot g) l).demand } :=
  only_overSlots (R := fun s t => t = { s with demand := t.demand }) (fun _ => rfl)
    (fun {s t u} h k => by rw [k, h]) (fun ch cl s => by unfold State.startSlot; split <;> rfl) s l

/-! ### A group that starts -/

/-- A group's record as its start leaves it (R107 steps 1 and 2). -/
def State.startedGroup (s : State) (g : Sys2Proof.Group) : FlashGroup :=
  { s.group g with
    fast := s.fastFlag g, phase := .onPhase, timer := some { s.group g with fast := s.fastFlag g }.onLength }

theorem startCycle_eq (s : State) (g : Sys2Proof.Group) : s.startCycle g = s.setGroup g (s.startedGroup g) := rfl

theorem handGroup_slot (l : List (Ch × Client)) (g : Sys2Proof.Group) (s : State) (x : Ch) (y : Client) :
    (State.handGroup l g s).slot x y =
      if (s.group g).phase = .idle ∧ (x, y) ∈ l then (s.slot x y).map (Entry.startOn g) else s.slot x y := by
  unfold State.handGroup
  split
  next starts =>
    rw [slot_startSlots]
    simp only [starts.1, true_and]
    exact rfl
  next quiet =>
    split
    next here =>
      cases slot : s.slot x y with
      | none => rfl
      | some e =>
        rw [Option.map_some, Entry.startOn, if_neg fun group => quiet ⟨here.1, ?_⟩]
        exact List.any_eq_true.mpr ⟨(x, y), here.2, (flashesOn_iff _ _ _ _).mpr ⟨e, slot, group⟩⟩
    next => rfl

theorem handGroup_group (l : List (Ch × Client)) (g h : Sys2Proof.Group) (s : State) :
    (State.handGroup l g s).group h =
      if h = g ∧ (s.group g).phase = .idle ∧ l.any (fun x => s.flashesOn g x.1 x.2) = true then s.startedGroup g
      else s.group h := by
  unfold State.handGroup
  split
  next starts =>
    rw [only_startSlots, startCycle_eq]
    refine (State.group_setGroup s g h _).trans ?_
    simp only [starts, and_true]
  next quiet => rw [if_neg fun c => quiet c.2]

/-! ### The hand-over to the flash generator (R107, R108) -/

/-- Which group an entry flashes on, if it is a FLASH entry. -/
def State.flashesAt (s : State) (x : Ch) (y : Client) : Option Sys2Proof.Group := (s.slot x y).bind Entry.flashGroup

theorem OnlyTable.chans {s t : State} (h : OnlyTable s t) : t.chans = s.chans := by
  rw [h]

theorem flashesAt_handGroup (l : List (Ch × Client)) (g : Sys2Proof.Group) (s : State) (x : Ch) (y : Client) :
    (State.handGroup l g s).flashesAt x y = s.flashesAt x y := by
  unfold State.flashesAt
  rw [handGroup_slot]
  split
  · cases s.slot x y with
    | none => rfl
    | some e => exact e.flashGroup_startOn g
  · rfl

theorem flashesOn_eq (s : State) (g : Sys2Proof.Group) (x : Ch) (y : Client) :
    s.flashesOn g x y = decide (s.flashesAt x y = some g) := rfl

theorem fastFlag_iff (s : State) (g : Sys2Proof.Group) : s.fastFlag g = true ↔
    ∃ x, (s.chan x).openFlag = true ∧ ∃ y, s.flashesAt x y = some g := by
  unfold State.fastFlag State.flashChannels State.channelFlashes
  simp only [List.any_eq_true, List.mem_filter, mem_allChannels, true_and, flashesOn_eq, decide_eq_true_eq,
    mem_allClients]
  exact ⟨fun ⟨x, flashes, isOpen⟩ => ⟨x, isOpen, flashes⟩, fun ⟨x, isOpen, flashes⟩ => ⟨x, flashes, isOpen⟩⟩

theorem fastFlag_congr {s t : State} (g : Sys2Proof.Group) (chans : t.chans = s.chans)
    (flashes : ∀ x y, t.flashesAt x y = s.flashesAt x y) : t.fastFlag g = s.fastFlag g := by
  rw [Bool.eq_iff_iff, fastFlag_iff, fastFlag_iff]
  unfold State.chan
  simp only [chans, flashes]

/-- An entry handed to the flash generator: started with its group where that stands IDLE (R107, R108). -/
def State.startIfIdle (s : State) (e : Entry) : Entry :=
  match e.flashGroup with
  | some g => if (s.group g).phase = .idle then e.start else e
  | none => e

theorem group_handGroup_other (l : List (Ch × Client)) {g h : Sys2Proof.Group} (s : State) (other : h ≠ g) :
    (State.handGroup l g s).group h = s.group h := by
  rw [handGroup_group, if_neg fun c => other c.1]

theorem slot_handFlash (s : State) (l : List (Ch × Client)) (x : Ch) (y : Client) :
    (s.handFlash l).slot x y = if (x, y) ∈ l then (s.slot x y).map s.startIfIdle else s.slot x y := by
  unfold State.handFlash
  rw [handGroup_slot, handGroup_slot, group_handGroup_other l s (by decide)]
  by_cases mem : (x, y) ∈ l
  · cases slot : s.slot x y with
    | none => simp
    | some e =>
      unfold State.startIfIdle Entry.startOn
      cases group : e.flashGroup with
      | none => simp [mem, group]
      | some g => cases g <;> by_cases idle : (s.group .a).phase = .idle <;>
          by_cases idle' : (s.group .b).phase = .idle <;> simp [mem, group, idle, idle', Entry.flashGroup_start]
  · simp [mem]

theorem group_handFlash (s : State) (l : List (Ch × Client)) (g : Sys2Proof.Group) : (s.handFlash l).group g =
    if (s.group g).phase = .idle ∧ l.any (fun x => s.flashesOn g x.1 x.2) = true then s.startedGroup g
    else s.group g := by
  unfold State.handFlash
  cases g with
  | a =>
    rw [group_handGroup_other l _ (by decide), handGroup_group]
    simp only [true_and]
  | b =>
    have same := group_handGroup_other (g := .a) (h := .b) l s (by decide)
    have flashes := flashesAt_handGroup l .a s
    have fast : (State.handGroup l .a s).fastFlag .b = s.fastFlag .b :=
      fastFlag_congr .b (table_handGroup l .a s).chans flashes
    have started : (State.handGroup l .a s).startedGroup .b = s.startedGroup .b := by
      unfold State.startedGroup
      rw [same, fast]
    rw [handGroup_group, same, started]
    refine if_congr ?_ rfl rfl
    simp only [flashesOn_eq, flashes, true_and]

end Sys2Proof.Machine
end

section
/-!
PROOF. The requests that record an entry (R37, R38, R43, R107, R108).
-/
namespace Sys2Proof.Machine

variable {i : Instr}

section
variable (s : State) (ch : Ch) (cl : Client) (e : Entry)

theorem slot_putEntry (x : Ch) (y : Client) : (s.putEntry ch cl e).slot x y =
    if x = ch ∧ y = cl then some (s.startIfIdle e) else s.slot x y := by
  unfold State.putEntry
  rw [slot_handFlash, State.slot_setSlot]
  simp only [List.mem_singleton, Prod.mk.injEq]
  split
  · rfl
  · rfl

theorem flashesAt_putEntry (x : Ch) (y : Client) :
    (s.putEntry ch cl e).flashesAt x y = (s.setSlot ch cl (some e)).flashesAt x y := by
  unfold State.putEntry State.handFlash
  rw [flashesAt_handGroup, flashesAt_handGroup]

theorem group_putEntry (g : Sys2Proof.Group) : (s.putEntry ch cl e).group g =
    if (s.group g).phase = .idle ∧ e.flashGroup = some g then (s.setSlot ch cl (some e)).startedGroup g
    else s.group g := by
  unfold State.putEntry
  rw [group_handFlash]
  refine if_congr (and_congr_right fun _ => ?_) rfl rfl
  simp [State.flashesOn, State.slot_setSlot]

end

theorem startIfIdle_heard (s : State) (src : Source) : (s.heard src).startIfIdle = s.startIfIdle := by
  unfold State.startIfIdle State.group
  rw [heard_groups]

/-- A request that records an entry, as its outcome is read: `e` is what the slot holds behind it, `started` the
group that the entry has started. -/
theorem records_of {s : State} {src : Source} {c : Instr} {ch : Ch} {e₀ e : Entry} {started : Option Sys2Proof.Group}
    (outcome : exec c s = .next (s.accepted src fun u => u.recordEntry ch src.client e₀))
    (stands : s.startIfIdle e₀ = e)
    (starts : ∀ g, started = some g ↔ (s.group g).phase = .idle ∧ e₀.flashGroup = some g) :
    ∃ t, exec c s = .next t ∧
      t.slot ch src.client = some e ∧
      (∀ x y, ¬ (x = ch ∧ y = src.client) → t.slot x y = s.slot x y) ∧
      t.HandedOver ch ∧ (∀ x, x ≠ ch → (s.heard src).SameWish t x) ∧
      (∀ x, some x ≠ started → t.group x = s.group x) ∧
      (∀ x, started = some x → (t.group x).phase = .onPhase ∧
        (t.group x).timer = some (t.group x).onLength ∧
        ((t.group x).fast = true ↔ ∃ y : Ch, (s.chan y).openFlag = true ∧
          ∃ cl : Client, ((t.slot y cl).bind Entry.flashGroup) = some x) ∧
        (t.group x).curPeriod = (s.group x).curPeriod ∧ (t.group x).curOn = (s.group x).curOn ∧
        (t.group x).pendPeriod = (s.group x).pendPeriod ∧ (t.group x).pendOn = (s.group x).pendOn) ∧
      t.ports = (s.heard src).ports ∧ t.quiet = some 0 ∧ t.RestHanded ∧ (s.heard src).SameBeyondDemands t := by
  set u := s.heard src with hu
  set v := u.putEntry ch src.client e₀ with hv
  set w := u.setSlot ch src.client (some e₀) with hw
  have only := only_recompute v true ch
  have table : OnlyTable u v := table_putEntry u ch src.client e₀
  have slot : ∀ x y, (v.recompute true ch).slot x y = v.slot x y := fun x y => by
    unfold State.slot
    rw [only.demand]
  have slotV : ∀ x y, v.slot x y = if x = ch ∧ y = src.client then some e else s.slot x y := fun x y => by
    rw [hv, slot_putEntry, hu, startIfIdle_heard, stands, heard_slot]
  have groupH : ∀ x, u.group x = s.group x := fun x => by
    unfold State.group
    rw [hu, heard_groups]
  have group : ∀ x, (v.recompute true ch).group x = if started = some x then w.startedGroup x else s.group x := fun x => by
    have kept : (v.recompute true ch).group x = v.group x := by
      unfold State.group
      rw [only.groups]
    rw [kept, hv, group_putEntry, groupH]
    exact if_congr (starts x).symm rfl rfl
  have handed : (v.recompute true ch).HandedOver ch := recompute_handedOver v true ch
  have wishes : ∀ x, x ≠ ch → u.SameWish (v.recompute true ch) x := fun x hx =>
    SameWish.trans ((handed_of_chans table.chans).sameWish x) (recompute_sameWish v true ch x hx)
  have ports : (v.recompute true ch).ports = u.ports := only.ports.trans (by rw [table])
  have beyond : u.SameBeyondDemands (v.recompute true ch) :=
    sameBeyond_of ((only_putEntry u ch _ e₀).trans only.toDemand) (only.placed.trans (by rw [table]))
      ((handed_of_chans table.chans).learned.trans (recompute_learned v true ch))
  have flashes : ∀ x y, ((v.recompute true ch).slot x y).bind Entry.flashGroup = w.flashesAt x y := fun x y => by
    rw [slot]
    exact flashesAt_putEntry u ch src.client e₀ x y
  have run : exec c s = .next (v.recompute true ch).noteAccepted.handRest := by
    rw [outcome, accepted_eq]
    exact rfl
  generalize v.recompute true ch = t at *
  refine ⟨_, run, ?_, fun x y other => ?_, handedOver_ended handed, fun x hx => sameWish_ended (wishes x hx),
    fun x other => ?_, fun x here => ?_, ports, rfl, restHanded_handRest _, sameBeyond_ended beyond⟩
  · exact (slot ch src.client).trans ((slotV _ _).trans (if_pos ⟨rfl, rfl⟩))
  · exact (slot x y).trans ((slotV _ _).trans (if_neg other))
  · exact (group x).trans (if_neg fun h => other h.symm)
  · have record : t.noteAccepted.handRest.group x = w.startedGroup x := (group x).trans (if_pos here)
    have fast : w.fastFlag x = true ↔ ∃ y : Ch, (s.chan y).openFlag = true ∧
        ∃ cl : Client, ((t.slot y cl).bind Entry.flashGroup) = some x := by
      rw [fastFlag_iff]
      simp only [hw, State.chan_setSlot, hu, heard_chan, flashes]
    have same : w.group x = s.group x := groupH x
    rw [record]
    unfold State.startedGroup
    rw [same]
    exact ⟨rfl, rfl, fast, rfl, rfl, rfl, rfl⟩

theorem startIfIdle_plain {e : Entry} (h : e.flashGroup = none) (s : State) : s.startIfIdle e = e := by
  unfold State.startIfIdle
  rw [h]

/-- Settles O13. -/
theorem setRequestsRecordTheirEntry : Obligations.SetRequestsRecordTheirEntry := by
  unfold Obligations.SetRequestsRecordTheirEntry
  intro src b d n gb k ch g s takes named may u duty records
  refine ⟨fun other positive => ?_, fun other => ?_, fun lamp side => ⟨fun runs => ?_, fun idle => ?_⟩⟩
  · refine records_of ((setSteady_accepted takes named d other may).trans (congrArg _ (accepted_congr ?_)))
      (startIfIdle_plain rfl s) fun x => by simp [Entry.flashGroup]
    exact if_neg (by omega)
  · exact records_of (setTimed_accepted takes named d n other may) (startIfIdle_plain rfl s) fun x => by
      simp [Entry.flashGroup]
  · refine records_of (setFlash_accepted takes named d k lamp side may) (if_neg runs) fun x => ?_
    simp only [reduceCtorEq, Entry.flashGroup, Option.some.injEq, false_iff, not_and]
    rintro idle rfl
    exact runs idle
  · refine records_of (setFlash_accepted takes named d k lamp side may) (if_pos idle) fun x => ?_
    simp only [Entry.flashGroup, Option.some.injEq]
    exact ⟨fun h => ⟨h ▸ idle, h⟩, fun h => h.2⟩

end Sys2Proof.Machine
end

section
/-!
PROOF. What the changes of a channel's demand and of its bridge's drive leave alone: every block but channels,
units, bridges, table and ports, of a unit its budgets and its hold, of a channel what it has learned.
-/
namespace Sys2Proof.Machine

variable {i : Instr}

/-! ### The units' budgets and holds -/

/-- Of the admission units at most queues, sums and counters differ. -/
def UnitsKept (s t : State) : Prop := ∀ f, t.unit f = { s.unit f with
  queue := (t.unit f).queue, sumS := (t.unit f).sumS, sumR := (t.unit f).sumR, counter := (t.unit f).counter }

theorem UnitsKept.refl (s : State) : UnitsKept s s := fun _ => rfl

theorem UnitsKept.trans {s t u : State} (h : UnitsKept s t) (k : UnitsKept t u) : UnitsKept s u := fun f => by
  rw [k f, h f]

theorem UnitsKept.hold {s t : State} (h : UnitsKept s t) (f : Feed) : (t.unit f).hold = (s.unit f).hold := by
  rw [h f]

theorem unitsKept_of_adm {s t : State} (h : t.adm = s.adm) : UnitsKept s t := fun f => by
  unfold State.unit
  rw [h]

theorem unitsKept_setUnit (s : State) (f : Feed) (q : List QueueEntry) (a b n : Nat) :
    UnitsKept s (s.setUnit f { s.unit f with queue := q, sumS := a, sumR := b, counter := n }) := fun g => by
  by_cases here : g = f
  · subst here
    rw [State.unit_setUnit_same]
  · rw [State.unit_setUnit, if_neg here]

theorem unitsKept_admitChannel (s : State) (ch : Ch) : UnitsKept s (s.admitChannel ch) := fun f => by
  obtain ⟨n, unit⟩ := unit_admitChannel s ch
  rw [unit]
  split
  next here => rw [here]
  next => rfl

theorem unitsKept_examineHeads (f : Feed) : ∀ (n : Nat) (s : State), UnitsKept s (State.examineHeads f n s)
  | 0, s => .refl s
  | n + 1, s => by
    unfold State.examineHeads
    split
    · exact .refl s
    · split
      · exact (unitsKept_setUnit s f _ _ _ _).trans
          ((unitsKept_admitChannel _ _).trans (unitsKept_examineHeads f n _))
      · exact .refl s

theorem unitsKept_examine (s : State) (f : Feed) : UnitsKept s (s.examine f) := unitsKept_examineHeads f _ s

theorem unitsKept_place (s : State) (ch : Ch) : UnitsKept s (s.place ch) :=
  UnitsKept.trans (t := s.setChan ch { s.chan ch with st := .waiting }) (unitsKept_of_adm rfl)
    (unitsKept_setUnit _ (feedOf ch) _ _ _ _)

theorem unitsKept_leaveTo (s : State) (ch : Ch) (dest : ChState) : UnitsKept s (s.leaveTo ch dest) := by
  unfold State.leaveTo
  dsimp only
  split
  · exact (unitsKept_setUnit s (feedOf ch) _ _ _ _).trans (unitsKept_of_adm rfl)
  · exact (unitsKept_setUnit s (feedOf ch) _ _ _ _).trans (unitsKept_of_adm rfl)
  · exact (unitsKept_setUnit s (feedOf ch) _ _ _ _).trans (unitsKept_of_adm rfl)
  · exact unitsKept_of_adm rfl

theorem unitsKept_startCore (s : State) (ch : Ch) : UnitsKept s (s.startCore ch) := by
  unfold State.startCore
  split
  · exact unitsKept_admitChannel s ch
  · exact unitsKept_place s ch
  · exact unitsKept_of_adm rfl

theorem unitsKept_handOver (s : State) (ch : Ch) : UnitsKept s (s.handOver ch) := by
  have told : UnitsKept s (s.setChan ch ((s.chan ch).record (typeOf ch) (s.combined ch))) := unitsKept_of_adm rfl
  rcases handOver_cases s ch with ⟨_, e⟩ | ⟨e, _⟩ | ⟨_, _, e⟩ | ⟨_, e⟩
  · rw [e]; exact .refl s
  · rw [e]; exact told
  · rw [e]; exact told.trans (unitsKept_startCore _ ch)
  · rw [e]; exact told.trans (unitsKept_leaveTo _ ch .off)

theorem unitsKept_recompute (s : State) (examined : Bool) (ch : Ch) : UnitsKept s (s.recompute examined ch) := by
  rcases recompute_eq s examined ch with e | e
  · rw [e]; exact unitsKept_handOver s ch
  · rw [e]; exact (unitsKept_handOver s ch).trans (unitsKept_examine _ _)

/-! ### Everything a drive's end and an entry's removal leave alone -/

/-- At most channels, units, bridges, table and ports differ, the units in queues, sums and counters alone, the
channels in nothing they have learned. -/
def State.Contained (s t : State) : Prop :=
  t = { s with chans := t.chans, adm := t.adm, bridges := t.bridges, demand := t.demand, ports := t.ports } ∧
    UnitsKept s t ∧ Learned s t

theorem State.Contained.trans {s t u : State} (h : s.Contained t) (k : t.Contained u) : s.Contained u := by
  obtain ⟨only, units, learned⟩ := h
  obtain ⟨only', units', learned'⟩ := k
  exact ⟨by rw [only', only], units.trans units', learned.trans learned'⟩

theorem contained_of_blocks {s t : State} (h : t = { s with bridges := t.bridges, demand := t.demand, ports := t.ports }) :
    s.Contained t :=
  ⟨by rw [h], unitsKept_of_adm (by rw [h]), (handed_of_chans (by rw [h])).learned⟩

theorem State.Contained.refl (s : State) : s.Contained s := contained_of_blocks rfl

theorem contained_setSlot (s : State) (ch : Ch) (cl : Client) (e : Option Entry) : s.Contained (s.setSlot ch cl e) :=
  contained_of_blocks rfl

theorem contained_setBridge (s : State) (br : Bridge) (r : BridgeRecord) : s.Contained (s.setBridge br r) :=
  contained_of_blocks rfl

theorem contained_offerEvent (s : State) (e : Event) : s.Contained (s.offerEvent e) := contained_of_blocks rfl

theorem contained_of_admission {s t : State} (only : OnlyAdmission s t) (units : UnitsKept s t) (learned : Learned s t) :
    s.Contained t := ⟨by rw [only], units, learned⟩

theorem contained_recompute (s : State) (examined : Bool) (ch : Ch) : s.Contained (s.recompute examined ch) :=
  contained_of_admission (only_recompute s examined ch) (unitsKept_recompute s examined ch) (recompute_learned s examined ch)

theorem contained_examine (s : State) (f : Feed) : s.Contained (s.examine f) :=
  contained_of_admission (only_examine s f) (unitsKept_examine s f) (handed_examine s f).learned

theorem contained_leaveTo (s : State) (ch : Ch) (dest : ChState) : s.Contained (s.leaveTo ch dest) :=
  contained_of_admission (only_leaveTo s ch dest) (unitsKept_leaveTo s ch dest) (handed_leaveTo s ch dest).learned

theorem contained_markEnding (s : State) (br : Bridge) : s.Contained (s.markEnding br) := by
  unfold State.markEnding
  split
  · exact contained_setSlot _ _ _ _
  · exact .refl s

theorem contained_offerDriveEnd (s : State) (br : Bridge) (cause : DriveCause) (undriven : Bool) :
    s.Contained (s.offerDriveEnd br cause undriven) := by
  unfold State.offerDriveEnd
  dsimp only
  split
  · exact .refl s
  · exact contained_offerEvent _ _

theorem contained_removeDrive (s : State) (examined : Bool) (br : Bridge) : s.Contained (s.removeDrive examined br) := by
  unfold State.removeDrive
  dsimp only
  split
  · exact .refl s
  · exact ((contained_setSlot s _ _ _).trans (contained_setBridge _ br _)).trans (contained_recompute _ _ _)

theorem contained_endDrive (s : State) (br : Bridge) (cause : DriveCause) : s.Contained (s.endDrive br cause) :=
  ((contained_markEnding s br).trans (contained_offerDriveEnd _ br cause false)).trans (contained_setBridge _ br _)

theorem contained_finishDrive (s : State) (br : Bridge) : s.Contained (s.finishDrive br) :=
  (contained_setBridge s br _).trans (contained_removeDrive _ true br)

theorem contained_handedEnd (s : State) (br : Bridge) (cause : DriveCause) : s.Contained (s.handedEnd br cause) := by
  have ended : ∀ undriven, s.Contained ((s.offerDriveEnd br cause undriven).finishDrive br) := fun undriven =>
    (contained_offerDriveEnd s br cause undriven).trans (contained_finishDrive _ br)
  unfold State.handedEnd
  dsimp only
  split
  · split
    · exact contained_endDrive s br cause
    · exact ended true
    · exact ended true
    · exact (contained_offerDriveEnd s br cause _).trans (contained_setBridge _ br _)
  · exact ended true

theorem contained_endEntry (s : State) (ch : Ch) (cl : Client) (cause : DriveCause) :
    s.Contained (s.endEntry ch cl cause) := by
  unfold State.endEntry
  split
  · exact (contained_setSlot s ch cl _).trans (contained_handedEnd _ _ cause)
  · exact .refl s

theorem contained_dropDrive (s : State) (examined : Bool) (br : Bridge) (cause : DriveCause) :
    s.Contained (s.dropDrive examined br cause) :=
  ((contained_offerDriveEnd s br cause _).trans (contained_setBridge _ br _)).trans (contained_removeDrive _ examined br)

theorem contained_removeEntry (s : State) (ch : Ch) (cl : Client) : s.Contained (s.removeEntry ch cl) := by
  unfold State.removeEntry
  split
  · exact .refl s
  · exact (contained_setSlot s ch cl none).trans (contained_recompute _ true ch)

theorem contained_silenceEntry (s : State) (cl : Client) (ch : Ch) : s.Contained (s.silenceEntry cl ch) := by
  unfold State.silenceEntry
  split
  · exact .refl s
  · exact contained_removeEntry s ch cl
  · exact contained_setSlot s ch cl _
  · exact contained_endEntry s ch cl .lost

section
variable {s t : State} (h : s.Contained t)
include h

theorem State.Contained.sameBeyond : s.SameBeyondDemands t := by
  obtain ⟨only, units, learned⟩ := h
  refine ⟨?_, ?_, ?_, ?_, ?_, ?_, ?_, ?_, ?_, learned⟩ <;> rw [only]

theorem State.Contained.groups : t.groups = s.groups := by rw [h.1]

theorem State.Contained.quiet : t.quiet = s.quiet := by rw [h.1]

theorem State.Contained.placed : t.placed = s.placed := by rw [h.1]

theorem State.Contained.mon : t.mon = s.mon := by rw [h.1]

theorem State.Contained.profile (ch : Ch) : (t.chan ch).profile = (s.chan ch).profile := (h.2.2 ch).1

end

end Sys2Proof.Machine
end

section
/-!
PROOF. Silence: what a client's loss does to its entries, its holds and the channels (R26, R28, R29, R31).
-/
namespace Sys2Proof.Machine

variable {i : Instr}

/-! ### One channel's entry (R29) -/

/-- What an act leaves in the slot it acts on. -/
def SilenceAct.leaves (o : Option Entry) : SilenceAct → Option Entry
  | .nothing => o
  | .remove => none
  | .keepHeld e => some e
  | .endDrive => o

/-- What a lost client's slot holds behind the expiry, on a channel that is no bridge. -/
def silenceLeaves (cl : Client) (silence : Option Silence) (o : Option Entry) : Option Entry :=
  (silenceAct cl silence o).leaves o

/-- What an act does to a client's entry on a channel. -/
def State.takeAct (s : State) (cl : Client) (ch : Ch) : SilenceAct → State
  | .nothing => s
  | .remove => s.removeEntry ch cl
  | .keepHeld e => s.setSlot ch cl (some e)
  | .endDrive => s.endEntry ch cl .lost

theorem silenceEntry_of_act {s : State} {cl : Client} {ch : Ch} {a : SilenceAct} (h : s.silenceActOn cl ch = a) :
    s.silenceEntry cl ch = s.takeAct cl ch a := by
  unfold State.silenceEntry
  rw [h]
  cases a <;> rfl

theorem silenceLeaves_of_act {s : State} {cl : Client} {ch : Ch} {a : SilenceAct} (h : s.silenceActOn cl ch = a) :
    silenceLeaves cl (s.chan ch).profile.silence (s.slot ch cl) = a.leaves (s.slot ch cl) :=
  congrArg (SilenceAct.leaves (s.slot ch cl)) h

theorem slot_silenceEntry {s : State} {cl : Client} {ch : Ch} (pwm : bridgeOf ch = none) (x : Ch) (y : Client) :
    (s.silenceEntry cl ch).slot x y =
      if x = ch ∧ y = cl then silenceLeaves cl (s.chan ch).profile.silence (s.slot ch cl) else s.slot x y := by
  have same : s.slot x y = if x = ch ∧ y = cl then s.slot ch cl else s.slot x y := by
    split
    next here => rw [here.1, here.2]
    next => rfl
  have ended : s.endEntry ch cl .lost = s := by
    unfold State.endEntry
    rw [pwm]
    split
    next h => cases h
    next => rfl
  cases act : s.silenceActOn cl ch with
  | nothing =>
    rw [silenceEntry_of_act act, silenceLeaves_of_act act]
    exact same
  | remove =>
    rw [silenceEntry_of_act act, silenceLeaves_of_act act]
    exact removeEntry_slot s ch cl x y
  | keepHeld e =>
    rw [silenceEntry_of_act act, silenceLeaves_of_act act]
    exact State.slot_setSlot s ch x cl y (some e)
  | endDrive =>
    rw [silenceEntry_of_act act, silenceLeaves_of_act act]
    exact (congrArg (fun t : State => t.slot x y) ended).trans same

/-- A hand-over leaves the table. -/
theorem slot_recompute (s : State) (examined : Bool) (ch x : Ch) (y : Client) :
    (s.recompute examined ch).slot x y = s.slot x y := by
  unfold State.slot
  rw [(only_recompute s examined ch).demand]

/-- The entries on the other channels stay. -/
def SlotsBeyond (ch : Ch) (s t : State) : Prop := ∀ x y, x ≠ ch → t.slot x y = s.slot x y

theorem SlotsBeyond.refl (ch : Ch) (s : State) : SlotsBeyond ch s s := fun _ _ _ => rfl

theorem SlotsBeyond.trans {ch : Ch} {s t u : State} (h : SlotsBeyond ch s t) (k : SlotsBeyond ch t u) :
    SlotsBeyond ch s u := fun x y hx => (k x y hx).trans (h x y hx)

theorem slotsBeyond_setSlot (s : State) (ch : Ch) (cl : Client) (e : Option Entry) :
    SlotsBeyond ch s (s.setSlot ch cl e) := fun x y hx => by
  rw [State.slot_setSlot, if_neg fun h => hx h.1]

theorem slotsBeyond_of_demand {s t : State} (ch : Ch) (h : t.demand = s.demand) : SlotsBeyond ch s t := fun x y _ => by
  unfold State.slot
  rw [h]

theorem slotsBeyond_removeDrive (s : State) (examined : Bool) (br : Bridge) :
    SlotsBeyond (bridgeChannel br) s (s.removeDrive examined br) := by
  unfold State.removeDrive
  dsimp only
  split
  · exact .refl _ s
  · exact (slotsBeyond_setSlot s _ _ none).trans
      ((slotsBeyond_of_demand _ rfl).trans fun x y _ => slot_recompute _ examined _ x y)

theorem demand_offerDriveEnd (s : State) (br : Bridge) (cause : DriveCause) (undriven : Bool) :
    (s.offerDriveEnd br cause undriven).demand = s.demand := by
  unfold State.offerDriveEnd
  dsimp only
  split
  · rfl
  · rfl

theorem slotsBeyond_markEnding (s : State) (br : Bridge) : SlotsBeyond (bridgeChannel br) s (s.markEnding br) := by
  unfold State.markEnding
  split
  · exact slotsBeyond_setSlot s _ _ _
  · exact .refl _ s

theorem slotsBeyond_endDrive (s : State) (br : Bridge) (cause : DriveCause) :
    SlotsBeyond (bridgeChannel br) s (s.endDrive br cause) :=
  (slotsBeyond_markEnding s br).trans
    ((slotsBeyond_of_demand _ (demand_offerDriveEnd _ br cause false)).trans (slotsBeyond_of_demand _ rfl))

theorem slotsBeyond_handedEnd (s : State) (br : Bridge) (cause : DriveCause) :
    SlotsBeyond (bridgeChannel br) s (s.handedEnd br cause) := by
  have offered : ∀ undriven, SlotsBeyond (bridgeChannel br) s (s.offerDriveEnd br cause undriven) := fun undriven =>
    slotsBeyond_of_demand _ (demand_offerDriveEnd s br cause undriven)
  have finished : SlotsBeyond (bridgeChannel br) s ((s.offerDriveEnd br cause true).finishDrive br) :=
    (offered true).trans ((slotsBeyond_of_demand _ rfl).trans (slotsBeyond_removeDrive _ true br))
  unfold State.handedEnd
  dsimp only
  split
  · split
    · exact slotsBeyond_endDrive s br cause
    · exact finished
    · exact finished
    · exact (offered _).trans (slotsBeyond_of_demand _ rfl)
  · exact finished

theorem slotsBeyond_endEntry (s : State) (ch : Ch) (cl : Client) (cause : DriveCause) :
    SlotsBeyond ch s (s.endEntry ch cl cause) := by
  unfold State.endEntry
  split
  next owner =>
    obtain rfl := bridgeOf_eq_some owner
    exact (slotsBeyond_setSlot s _ cl _).trans (slotsBeyond_handedEnd _ _ cause)
  next => exact .refl ch s

theorem slotsBeyond_silenceEntry (s : State) (cl : Client) (ch : Ch) : SlotsBeyond ch s (s.silenceEntry cl ch) := by
  unfold State.silenceEntry
  split
  · exact .refl ch s
  · exact fun x y hx => (removeEntry_slot s ch cl x y).trans (if_neg fun h => hx h.1)
  · exact slotsBeyond_setSlot s ch cl _
  · exact slotsBeyond_endEntry s ch cl .lost

/-! ### All sixteen channels -/

theorem slot_silenceEntries {cl : Client} {ch : Ch} (pwm : bridgeOf ch = none) (y : Client) (l : List Ch) (s : State)
    (nodup : l.Nodup) : (l.foldl (fun t x => t.silenceEntry cl x) s).slot ch y =
      if ch ∈ l ∧ y = cl then silenceLeaves cl (s.chan ch).profile.silence (s.slot ch cl) else s.slot ch y := by
  induction l generalizing s with
  | nil => simp
  | cons x l ih =>
    obtain ⟨fresh, rest⟩ := List.nodup_cons.mp nodup
    rw [List.foldl_cons, ih _ rest]
    by_cases here : ch = x
    · subst here
      rw [if_neg fun h => fresh h.1, slot_silenceEntry pwm]
      simp
    · have slots := fun y => slotsBeyond_silenceEntry s cl x ch y here
      rw [slots, slots, (contained_silenceEntry s cl x).profile]
      simp [here]

theorem contained_silenceEntries (cl : Client) (l : List Ch) (s : State) :
    s.Contained (l.foldl (fun t x => t.silenceEntry cl x) s) := by
  induction l generalizing s with
  | nil => exact .refl s
  | cons x l ih => exact (contained_silenceEntry s cl x).trans (ih _)

/-! ### Holds lost (R28 step 3) -/

theorem loseHold_own {s : State} {cl : Client} {f : Feed} {h : Hold} (held : (s.unit f).hold = some h)
    (own : h.holder = cl) : s.loseHold cl f = ((s.setUnit f { s.unit f with hold := none }).offerEvent
      (.holdEnd f h.holder h.level .lost none)).examine f := by
  unfold State.loseHold
  rw [held]
  exact (if_pos own).trans (State.endHold_of_hold held _ _)

theorem loseHold_other {s : State} {cl : Client} {f : Feed} (h : (s.unit f).hold.map Hold.holder ≠ some cl) :
    s.loseHold cl f = s := by
  unfold State.loseHold
  cases held : (s.unit f).hold with
  | none => rfl
  | some x =>
    refine if_neg fun own => h ?_
    rw [held, ← own]
    rfl

theorem hold_loseHold (s : State) (cl : Client) (f g : Feed) : ((s.loseHold cl f).unit g).hold =
    if g = f ∧ (s.unit g).hold.map Hold.holder = some cl then none else (s.unit g).hold := by
  by_cases own : (s.unit f).hold.map Hold.holder = some cl
  · obtain ⟨h, held, holder⟩ := Option.map_eq_some_iff.mp own
    rw [loseHold_own held holder, (unitsKept_examine _ f).hold]
    change ((s.setUnit f { s.unit f with hold := none }).unit g).hold = _
    rw [State.unit_setUnit]
    by_cases here : g = f
    · subst here
      rw [if_pos rfl, if_pos ⟨rfl, own⟩]
    · rw [if_neg here, if_neg fun c => here c.1]
  · rw [loseHold_other own, if_neg]
    rintro ⟨rfl, holder⟩
    exact own holder

/-- A hold's end touches units, channels, bridges and ports alone, and nothing a channel has learned. -/
theorem loseHold_keeps (s : State) (cl : Client) (f : Feed) :
    s.loseHold cl f = { s with chans := (s.loseHold cl f).chans, adm := (s.loseHold cl f).adm
                               bridges := (s.loseHold cl f).bridges, ports := (s.loseHold cl f).ports } ∧
      Learned s (s.loseHold cl f) := by
  by_cases own : (s.unit f).hold.map Hold.holder = some cl
  · obtain ⟨h, held, holder⟩ := Option.map_eq_some_iff.mp own
    have kept : ∀ t u : State, t = { s with adm := t.adm, ports := t.ports } → OnlyAdmission t u → Handed t u →
        u = { s with chans := u.chans, adm := u.adm, bridges := u.bridges, ports := u.ports } ∧ Learned s u := by
      intro t u emptied only handed
      refine ⟨by rw [only, emptied], Learned.trans ?_ handed.learned⟩
      rw [emptied]
      exact (handed_of_chans rfl).learned
    rw [loseHold_own held holder]
    exact kept _ _ rfl (only_examine _ f) (handed_examine _ f)
  · rw [loseHold_other own]
    exact ⟨rfl, .refl s⟩

/-! ### The expiry (R28) -/

/-- A client's loss, before its event is offered. -/
def State.silenced (s : State) (cl : Client) : State :=
  ((allChannels.foldl (fun t ch => t.silenceEntry cl ch)
    (s.setClient cl { s.client cl with st := .lost, silence := none })).loseHold cl .a).loseHold cl .b

theorem expireSilence_eq (s : State) (cl : Client) : s.expireSilence cl =
    (s.silenced cl).offerEvent
      (.clientLost cl (s.client cl).lastPort (s.silenceRemoved cl) (s.silenceKept cl)) := rfl

theorem silenced_keeps (s : State) (cl : Client) :
    s.silenced cl = { s.setClient cl { s.client cl with st := .lost, silence := none } with
      chans := (s.silenced cl).chans, demand := (s.silenced cl).demand, adm := (s.silenced cl).adm
      bridges := (s.silenced cl).bridges, ports := (s.silenced cl).ports } ∧
    Learned s (s.silenced cl) := by
  have compose : ∀ a b c d : State, a.Contained b →
      (c = { b with chans := c.chans, adm := c.adm, bridges := c.bridges, ports := c.ports } ∧ Learned b c) →
      (d = { c with chans := d.chans, adm := d.adm, bridges := d.bridges, ports := d.ports } ∧ Learned c d) →
      d = { a with chans := d.chans, demand := d.demand, adm := d.adm, bridges := d.bridges, ports := d.ports } ∧
        Learned a d := by
    rintro a b c d ⟨only, _, learned⟩ ⟨only', learned'⟩ ⟨only'', learned''⟩
    exact ⟨by rw [only'', only', only], (learned.trans learned').trans learned''⟩
  exact compose _ _ _ _ (contained_silenceEntries cl allChannels _) (loseHold_keeps _ cl .a) (loseHold_keeps _ cl .b)

theorem demand_loseHold (s : State) (cl : Client) (f : Feed) : (s.loseHold cl f).demand = s.demand := by
  rw [(loseHold_keeps s cl f).1]

theorem slot_silenced {s : State} {ch : Ch} (pwm : bridgeOf ch = none) (cl y : Client) : (s.silenced cl).slot ch y =
    if y = cl then silenceLeaves cl (s.chan ch).profile.silence (s.slot ch cl) else s.slot ch y := by
  have entries := slot_silenceEntries (cl := cl) pwm y allChannels
    (s.setClient cl { s.client cl with st := .lost, silence := none }) allChannels_nodup
  simp only [mem_allChannels, true_and] at entries
  refine Eq.trans ?_ entries
  unfold State.slot State.silenced
  rw [demand_loseHold, demand_loseHold]

theorem hold_silenced (s : State) (cl : Client) (f : Feed) : ((s.silenced cl).unit f).hold =
    if (s.unit f).hold.map Hold.holder = some cl then none else (s.unit f).hold := by
  have entries : ∀ g, ((allChannels.foldl (fun t ch => t.silenceEntry cl ch)
      (s.setClient cl { s.client cl with st := .lost, silence := none })).unit g).hold = (s.unit g).hold := fun g =>
    ((contained_silenceEntries cl allChannels _).2.1).hold g
  unfold State.silenced
  rw [hold_loseHold, hold_loseHold, entries]
  cases f <;> simp

end Sys2Proof.Machine
end

section
/-!
PROOF. The expiry of a client's silence and CLIENT_CFG (R28, R29, R31).
-/
namespace Sys2Proof.Machine

variable {i : Instr}

/-- Whether a STEADY or FLASH entry of a lost client goes (R29). -/
def State.goesAt (s : State) (cl : Client) (ch : Ch) : Bool :=
  cl = .service || (s.chan ch).profile.silence = some .release

theorem goesAt_iff (s : State) (cl : Client) (ch : Ch) : s.goesAt cl ch = true ↔
    (cl = .service ∨ (s.chan ch).profile.silence = some .release) := by
  unfold State.goesAt
  rw [Bool.or_eq_true, decide_eq_true_eq, decide_eq_true_eq]

section
variable {s : State} {cl : Client} {ch : Ch}

theorem act_none (h : s.slot ch cl = none) : s.silenceActOn cl ch = .nothing := by
  unfold State.silenceActOn
  rw [h]
  rfl

theorem act_inhibit (h : s.slot ch cl = some .inhibit) : s.silenceActOn cl ch = .remove := by
  unfold State.silenceActOn
  rw [h]
  rfl

theorem act_drive {dir : Direction} {n : Nat} {e : Bool} (h : s.slot ch cl = some (.drive dir n e)) :
    s.silenceActOn cl ch = .endDrive := by
  unfold State.silenceActOn
  rw [h]
  rfl

theorem act_timed {d r ms : Nat} (h : s.slot ch cl = some (.timed d r ms)) :
    s.silenceActOn cl ch = if cl = .service then .remove else .nothing := by
  unfold State.silenceActOn
  rw [h]
  rfl

theorem act_steady {d : Nat} {held : Bool} (h : s.slot ch cl = some (.steady d held)) :
    s.silenceActOn cl ch = if s.goesAt cl ch = true then .remove else .keepHeld (.steady d true) := by
  unfold State.silenceActOn
  rw [h]
  exact if_congr (goesAt_iff s cl ch).symm rfl rfl

theorem act_flash {d n r : Nat} {g : Sys2Proof.Group} {started held : Bool}
    (h : s.slot ch cl = some (.flash d g n r started held)) : s.silenceActOn cl ch =
      if s.goesAt cl ch = true then .remove else .keepHeld (.flash d g n r started true) := by
  unfold State.silenceActOn
  rw [h]
  exact if_congr (goesAt_iff s cl ch).symm rfl rfl

end

theorem clientOfByte_eq {b : Byte} {who : Client} (named : who ≠ .wired) (h : b.toNat = who.number) :
    clientOfByte b = some who := by
  unfold clientOfByte
  rw [h]
  cases who with
  | wired => exact absurd rfl named
  | _ => rfl

theorem silenced_blocks (s : State) (cl : Client) :
    (s.silenced cl).clients = (s.setClient cl { s.client cl with st := .lost, silence := none }).clients ∧
    (s.silenced cl).groups = s.groups ∧ (s.silenced cl).mon = s.mon ∧ (s.silenced cl).pins = s.pins ∧
    (s.silenced cl).placed = s.placed := by
  obtain ⟨only, _⟩ := silenced_keeps s cl
  refine ⟨?_, ?_, ?_, ?_, ?_⟩ <;> rw [only] <;> rfl

theorem silenced_told (s : State) (cl : Client) (e : Event) : (s.silenced cl).offerEvent e =
    (((allChannels.foldl (fun t ch => t.silenceEntry cl ch)
      (s.setClient cl { s.client cl with st := .lost, silence := none })).loseHold cl .a).loseHold cl
        .b).offerEvent e := rfl

/-- Settles O11. -/
theorem silenceLosesTheClient : Obligations.SilenceLosesTheClient := by
  unfold Obligations.SilenceLosesTheClient
  refine ⟨fun cl s => ?_, fun port b time who s => ?_⟩
  · intro u goes removed kept
    obtain ⟨_, learned⟩ := silenced_keeps s cl
    obtain ⟨clients, groups, mon, pins, placed⟩ := silenced_blocks s cl
    have u_eq : u = (s.silenced cl).offerEvent
        (.clientLost cl (s.client cl).lastPort (s.silenceRemoved cl) (s.silenceKept cl)) := expireSilence_eq s cl
    have countRemoved : s.silenceRemoved cl = removed := by
      unfold State.silenceRemoved
      rw [← List.countP_eq_length_filter]
      refine List.countP_congr fun ch _ => ?_
      cases slot : s.slot ch cl with
      | none => rw [act_none slot]; simp
      | some e =>
        cases e with
        | inhibit => rw [act_inhibit slot]; simp
        | drive => rw [act_drive slot]; simp
        | timed => rw [act_timed slot]; by_cases service : cl = .service <;> simp [service]
        | steady =>
          rw [act_steady slot]
          change _ ↔ s.goesAt cl ch = true
          cases s.goesAt cl ch <;> simp
        | flash =>
          rw [act_flash slot]
          change _ ↔ s.goesAt cl ch = true
          cases s.goesAt cl ch <;> simp
    have countKept : s.silenceKept cl = kept := by
      unfold State.silenceKept
      rw [← List.countP_eq_length_filter]
      refine List.countP_congr fun ch _ => ?_
      cases slot : s.slot ch cl with
      | none => rw [act_none slot]; simp [SilenceAct.keeps]
      | some e =>
        cases e with
        | inhibit => rw [act_inhibit slot]; simp [SilenceAct.keeps]
        | drive => rw [act_drive slot]; simp [SilenceAct.keeps]
        | timed => rw [act_timed slot]; by_cases service : cl = .service <;> simp [service, SilenceAct.keeps]
        | steady =>
          rw [act_steady slot]
          change _ ↔ (!s.goesAt cl ch) = true
          cases s.goesAt cl ch <;> simp [SilenceAct.keeps]
        | flash =>
          rw [act_flash slot]
          change _ ↔ (!s.goesAt cl ch) = true
          cases s.goesAt cl ch <;> simp [SilenceAct.keeps]
    have client : ∀ x, u.client x = (s.setClient cl { s.client cl with st := .lost, silence := none }).client x :=
      fun x => by
        rw [u_eq]
        change (s.silenced cl).clients.get x = _
        rw [clients]
        rfl
    have slot : ∀ ch, bridgeOf ch = none → ∀ y, u.slot ch y =
        if y = cl then (s.silenceActOn cl ch).leaves (s.slot ch cl) else s.slot ch y := fun ch pwm y => by
      rw [u_eq]
      exact slot_silenced pwm cl y
    refine ⟨fun running named active late => ?_, ?_, fun x other => ?_, fun ch pwm => ⟨fun x other => ?_, ?_⟩,
      fun f => ?_, ?_, ?_, ?_, ?_, ?_, ?_, fun ch drive => ?_⟩
    · exact congrArg _ (run_due s _ (fun t => t.expireSilence cl) running
        ((silenceDue_iff s cl).mpr ⟨named, active, late⟩))
    · rw [client, State.client_setClient, if_pos rfl]
    · rw [client, State.client_setClient, if_neg other]
    · rw [slot ch pwm, if_neg other]
    · rw [slot ch pwm, if_pos rfl]
      cases held : s.slot ch cl with
      | none => rw [act_none held]; rfl
      | some e =>
        cases e with
        | inhibit => rw [act_inhibit held]; rfl
        | drive => rw [act_drive held]; rfl
        | timed => rw [act_timed held]; split <;> rfl
        | steady =>
          rw [act_steady held]
          change _ = if s.goesAt cl ch = true then _ else _
          split <;> rfl
        | flash =>
          rw [act_flash held]
          change _ = if s.goesAt cl ch = true then _ else _
          split <;> rfl
    · rw [u_eq]
      exact hold_silenced s cl f
    · rw [u_eq]
      exact groups
    · rw [u_eq]
      exact mon
    · rw [u_eq]
      exact pins
    · rw [u_eq]
      exact placed
    · rw [u_eq]
      exact learned
    · rw [u_eq, countRemoved, countKept]
      exact silenced_told s cl _
    · obtain ⟨e, held, isDrive⟩ := Option.map_eq_some_iff.mp drive
      obtain ⟨dir, n, m, rfl⟩ := (Entry.isDrive_iff e).mp isDrive
      exact silenceEntry_of_act (act_drive held)
  · intro src r late takes named names
    have accepts : exec (.clientCfg src b time) s = .next (s.accepted src fun u => u.acceptClientCfg who time) := by
      refine accepted_by (fun _ => rfl) takes ?_
      unfold judgeClientCfg
      rw [clientOfByte_eq named names]
      rfl
    have reaches : (r.st = .active ∧ reached r.timeout r.silence = true) ↔ late := by
      rw [reached_iff]
    refine ⟨fun calm => accepts.trans (congrArg _ (accepted_congr ?_)),
      fun isLate => accepts.trans (congrArg _ (accepted_congr ?_))⟩
    · exact if_neg fun h => calm (reaches.mp h)
    · exact if_pos (reaches.mpr isLate)

end Sys2Proof.Machine
end

section
/-!
PROOF. The wired samples (R45, R161, R163).
-/
namespace Sys2Proof.Machine

variable {i : Instr}

section
variable (s : State) (l : PinLevels)

theorem pins_samplePins (p : Pin) : (s.samplePins l).pins.get p = (s.pins.get p).sample (levelOf l p) := by
  cases p <;> rfl

theorem level_of_sample (p : Pin) : (s.samplePins l).level p = ((s.pins.get p).sample (levelOf l p)).level := by
  cases p <;> rfl

theorem pinActivates_iff (p : Pin) :
    s.pinActivates l p = true ↔ s.level p = false ∧ (s.samplePins l).level p = true := by
  rw [level_of_sample]
  unfold State.pinActivates PinRecord.activates State.level
  rw [Bool.and_eq_true, Bool.not_eq_true']

theorem pinDeactivates_iff (p : Pin) :
    s.pinDeactivates l p = true ↔ s.level p = true ∧ (s.samplePins l).level p = false := by
  rw [level_of_sample]
  unfold State.pinDeactivates PinRecord.deactivates State.level
  rw [Bool.and_eq_true, Bool.not_eq_true']

/-- A pin after a sample (R45). -/
theorem sample_eq (raw : Bool) (r : PinRecord) : r.sample raw =
    if raw = r.level then { raw := raw, level := r.level, count := 0 }
    else if r.count + 1 < 20 then { raw := raw, level := r.level, count := r.count + 1 }
    else { raw := raw, level := raw, count := 0 } := by
  unfold PinRecord.sample
  refine if_congr Iff.rfl rfl ?_
  by_cases below : r.count + 1 < 20
  · rw [if_neg (Nat.not_le.mpr below), if_pos below]
  · rw [if_pos (Nat.not_lt.mp below), if_neg below]

theorem pins_awake : s.awake.pins = s.pins := by
  unfold State.awake
  split
  · rfl
  · exact (only_wakeUp s).toBlocks.pins

/-- No change of an input's level acts beyond the pins (R45). -/
theorem pins_wiredSample : (s.wiredSample l).pins = (s.samplePins l).pins := by
  have inputs : ∀ t : State, ∀ b d w, (t.inputChange b d w).pins = t.pins := fun t b d w =>
    (only_inputChange t b d w).toBlocks.pins
  unfold State.wiredSample
  dsimp only
  rw [inputs, inputs, inputs]
  split
  · exact pins_awake _
  · rfl

end

section
variable {s : State} {l : PinLevels}

theorem not_activates_of_same {p : Pin} (h : (s.samplePins l).level p = s.level p) : s.pinActivates l p = false := by
  rw [← Bool.not_eq_true, pinActivates_iff, h]
  simp

theorem not_deactivates_of_same {p : Pin} (h : (s.samplePins l).level p = s.level p) :
    s.pinDeactivates l p = false := by
  rw [← Bool.not_eq_true, pinDeactivates_iff, h]
  simp

theorem inputChange_none (t : State) (w : WiredInput) : t.inputChange false false w = t := rfl

/-- A sample that changes no input's level samples the pins, and wakes the part where it makes KEY active. -/
theorem wiredSample_of_still (brake : (s.samplePins l).level .brake = s.level .brake)
    (hazard : (s.samplePins l).level .hazard = s.level .hazard)
    (reverse : (s.samplePins l).level .reverse = s.level .reverse) : s.wiredSample l =
      if s.pinActivates l .key = true then (s.samplePins l).awake else s.samplePins l := by
  unfold State.wiredSample State.anyActivates
  dsimp only
  rw [not_activates_of_same brake, not_activates_of_same hazard, not_activates_of_same reverse,
    not_deactivates_of_same brake, not_deactivates_of_same hazard, not_deactivates_of_same reverse]
  rfl

theorem samplePins_part : (s.samplePins l).part = s.part := rfl

end

/-- Settles O19. -/
theorem wiredSamplesAreDebounced : Obligations.WiredSamplesAreDebounced := by
  unfold Obligations.WiredSamplesAreDebounced
  intro l s on u moves
  refine ⟨rfl, fun p => ?_, ⟨_, runs_to (fun _ => rfl) on rfl, ?_⟩,
    fun brake hazard reverse => ⟨fun active => ?_, fun key => ⟨?_, fun sleep isOn => ?_, fun sleep isOff => ?_⟩⟩⟩
  · rw [pins_samplePins, sample_eq]
    cases p <;> rfl
  · rw [settle_pins, pins_wiredSample]
  · have still := wiredSample_of_still (not_not.mp brake) (not_not.mp hazard) (not_not.mp reverse)
    rw [awake_of_active _ (samplePins_part.trans active), ite_self] at still
    exact runs_to (fun _ => rfl) on still
  · have due : (s.pinActivates l .key || s.pinDeactivates l .key) = true := by
      rw [Bool.or_eq_true, pinActivates_iff, pinDeactivates_iff]
      revert key
      change u.level .key ≠ s.level .key → _
      cases s.level .key <;> cases u.level .key <;> simp
    have sample : exec (.wiredInputSample l) s = .next (State.settle s (s.wiredSample l)) := runs_to (fun _ => rfl) on rfl
    rw [sample]
    exact congrArg _ (run_event s (fun t => t.pinActivates l .key || t.pinDeactivates l .key) _ on due)
  all_goals
    have still := wiredSample_of_still (not_not.mp brake) (not_not.mp hazard) (not_not.mp reverse)
    have changed : u.level .key ≠ s.level .key := key
  · have was : s.level .key = false := by rw [isOn] at changed; simpa using changed.symm
    have activates : s.pinActivates l .key = true := (pinActivates_iff s l .key).mpr ⟨was, isOn⟩
    rw [if_pos activates, awake_of_sleep (samplePins_part.trans sleep)] at still
    refine congrArg _ ((run_event s (fun t => t.pinActivates l .key || t.pinDeactivates l .key) _ on ?_).trans
      (congrArg (State.settle s) still))
    rw [activates]
    rfl
  · have was : s.level .key = true := by rw [isOff] at changed; simpa using changed.symm
    have deactivates : s.pinDeactivates l .key = true := (pinDeactivates_iff s l .key).mpr ⟨was, isOff⟩
    have stays : ¬ s.pinActivates l .key = true := fun h => by
      rw [((pinActivates_iff s l .key).mp h).1] at was
      cases was
    rw [if_neg stays] at still
    refine congrArg _ ((run_event s (fun t => t.pinActivates l .key || t.pinDeactivates l .key) _ on ?_).trans
      (congrArg (State.settle s) still))
    rw [deactivates, Bool.or_true]

end Sys2Proof.Machine
end

section
/-!
PROOF. Activations and deactivations of the wired inputs (R46, R47, R107, R163).
-/
namespace Sys2Proof.Machine

variable {i : Instr}

/-! ### Several channels handed their combined demand -/

/-- What handing combined demands over to the channels of a list comes to (R43). -/
def State.HandedTo (s : State) (l : List Ch) (t : State) : Prop :=
  OnlyAdmission s t ∧ Learned s t ∧ (∀ x ∈ l, t.HandedOver x) ∧ ∀ x, x ∉ l → s.SameWish t x

theorem handedTo_recompute (l : List Ch) (s : State) : s.HandedTo l (l.foldl (fun t x => t.recompute true x) s) := by
  induction l generalizing s with
  | nil => exact ⟨.refl s, .refl s, fun _ h => (List.not_mem_nil h).elim, fun _ _ => ⟨rfl, rfl, rfl⟩⟩
  | cons ch l ih =>
    obtain ⟨only, learned, handed, same⟩ := ih (s.recompute true ch)
    rw [List.foldl_cons]
    refine ⟨(only_recompute s true ch).trans only, (recompute_learned s true ch).trans learned, fun x hx => ?_,
      fun x hx => ?_⟩
    · by_cases later : x ∈ l
      · exact handed x later
      · obtain rfl : x = ch := (List.mem_cons.mp hx).resolve_right later
        obtain ⟨pending, wish, inhibited⟩ := same x later
        obtain ⟨duty, wants, inhibits⟩ := recompute_handedOver s true x
        unfold State.HandedOver
        rw [combined_congr only.demand only.groups, pending, wish, inhibited]
        exact ⟨duty, wants, inhibits⟩
    · obtain ⟨other, later⟩ := not_or.mp (List.mem_cons.not.mp hx)
      exact SameWish.trans (recompute_sameWish s true ch x other) (same x later)

/-! ### The entries an activation places (R46) -/

theorem slot_wireSlots (s : State) (w : WiredInput) (x : Ch) (y : Client) : (s.wireSlots w).slot x y =
    if x ∈ s.boundChannels w ∧ y = .wired then some (s.chan x).profile.wiredEntry else s.slot x y := by
  have fold : ∀ (l : List Ch) (t : State), t.chans = s.chans →
      (l.foldl (fun t ch => t.setSlot ch .wired (some (t.chan ch).profile.wiredEntry)) t).slot x y =
        if x ∈ l ∧ y = .wired then some (s.chan x).profile.wiredEntry else t.slot x y := by
    intro l
    induction l with
    | nil => intro t _; simp
    | cons ch l ih =>
      intro t chans
      rw [List.foldl_cons, ih (t.setSlot ch .wired _) chans, State.slot_setSlot,
        show (t.chan ch).profile.wiredEntry = (s.chan ch).profile.wiredEntry by unfold State.chan; rw [chans]]
      by_cases here : x = ch
      · subst here
        by_cases wired : y = .wired <;> simp [wired]
      · simp [here]
  exact fold _ s rfl

/-- The table with an input's WIRED entries and its placed set, before the flash generator takes them (R46). -/
def State.wiredTable (s : State) (w : WiredInput) : State :=
  { s.wireSlots w with placed := placedAfter s.placed w (s.boundChannels w) }

theorem placeWired_handed (s : State) (w : WiredInput) : s.placeWired w =
    (s.wiredTable w).handFlash ((s.boundChannels w).map fun ch => (ch, .wired)) := by
  have placed : (s.wireSlots w).placed = s.placed := by rw [table_wireSlots s w]
  unfold State.wiredTable
  rw [← placed]
  rfl

theorem groups_wiredTable (s : State) (w : WiredInput) : (s.wiredTable w).groups = s.groups :=
  only_overChannels (R := fun s t => t.groups = s.groups)
    (f := fun ch t => t.setSlot ch .wired (some (t.chan ch).profile.wiredEntry))
    (fun _ => rfl) (fun h k => k.trans h) (fun _ _ => rfl) s _

theorem slot_wiredTable (s : State) (w : WiredInput) (x : Ch) (y : Client) : (s.wiredTable w).slot x y =
    if x ∈ s.boundChannels w ∧ y = .wired then some (s.chan x).profile.wiredEntry else s.slot x y :=
  slot_wireSlots s w x y

theorem startIfIdle_of_groups {s t : State} (h : t.groups = s.groups) : t.startIfIdle = s.startIfIdle := by
  unfold State.startIfIdle State.group
  rw [h]

theorem mem_news {l : List Ch} {x : Ch} {y : Client} :
    (x, y) ∈ l.map (fun ch => (ch, Client.wired)) ↔ x ∈ l ∧ y = .wired := by
  simp only [List.mem_map, Prod.mk.injEq]
  exact ⟨fun ⟨ch, mem, same, wired⟩ => ⟨same ▸ mem, wired.symm⟩, fun ⟨mem, wired⟩ => ⟨x, mem, rfl, wired.symm⟩⟩

theorem slot_placeWired (s : State) (w : WiredInput) (x : Ch) (y : Client) : (s.placeWired w).slot x y =
    if x ∈ s.boundChannels w ∧ y = .wired then some (s.startIfIdle (s.chan x).profile.wiredEntry)
    else s.slot x y := by
  rw [placeWired_handed, slot_handFlash, startIfIdle_of_groups (groups_wiredTable s w), slot_wiredTable]
  simp only [mem_news]
  split
  · rfl
  · rfl

theorem group_placeWired (s : State) (w : WiredInput) (g : Sys2Proof.Group) : ∃ r : FlashGroup,
    r.phase = .onPhase ∧ r.timer = some r.onLength ∧ (s.placeWired w).group g =
      if (s.group g).phase = .idle ∧ ∃ ch ∈ s.boundChannels w, (s.chan ch).profile.wiredEntry.flashGroup = some g then r
      else s.group g := by
  have group : (s.wiredTable w).group g = s.group g := congrArg (fun p : Pair FlashGroup => p.get g) (groups_wiredTable s w)
  refine ⟨(s.wiredTable w).startedGroup g, rfl, rfl, ?_⟩
  rw [placeWired_handed, group_handFlash, group]
  refine if_congr (and_congr_right fun _ => ?_) rfl rfl
  simp only [List.any_eq_true, flashesOn_iff]
  constructor
  · rintro ⟨⟨x, y⟩, mem, e, held, on⟩
    obtain ⟨bound, rfl⟩ := mem_news.mp mem
    rw [slot_wiredTable, if_pos ⟨bound, rfl⟩] at held
    cases held
    exact ⟨x, bound, on⟩
  · rintro ⟨x, bound, on⟩
    exact ⟨(x, .wired), mem_news.mpr ⟨bound, rfl⟩, _, (slot_wiredTable s w x .wired).trans (if_pos ⟨bound, rfl⟩), on⟩

theorem placed_placeWired (s : State) (w : WiredInput) :
    (s.placeWired w).placed = placedAfter s.placed w (s.boundChannels w) := by
  rw [placeWired_handed, table_handFlash (s.wiredTable w)]
  rfl

theorem placedAfter_get (p : PerInput (List Ch)) (w j : WiredInput) (l : List Ch) : (placedAfter p w l).get j =
    if j = w then l else (p.get j).filter fun ch => !l.contains ch := by
  cases w <;> cases j <;> rfl

/-! ### An activation, with its hand-overs (R46) -/

theorem mem_boundChannels {s : State} {w : WiredInput} {ch : Ch} : ch ∈ s.boundChannels w ↔
    (s.chan ch).profile.bindInput = some w ∧ 0 < (s.chan ch).profile.bindDuty := by
  rw [boundChannels_eq, List.mem_filter, decide_eq_true_eq]
  simp [mem_allChannels]

theorem handedTo_activateInput (s : State) (w : WiredInput) :
    (s.placeWired w).HandedTo (s.boundChannels w) (s.activateInput w) := handedTo_recompute _ _

theorem chan_placeWired (s : State) (w : WiredInput) : (s.placeWired w).chans = s.chans := by
  rw [placeWired_eq]

end Sys2Proof.Machine
end

section
/-!
PROOF. INPUT_ACTIVATION and INPUT_DEACTIVATION (R46, R47, R163).
-/
namespace Sys2Proof.Machine

variable {i : Instr}

theorem awake_keeps (s : State) : s.awake.demand = s.demand ∧ s.awake.groups = s.groups ∧ s.awake.placed = s.placed ∧
    ∀ ch, (s.awake.chan ch).profile = (s.chan ch).profile := by
  unfold State.awake
  split
  · exact ⟨rfl, rfl, rfl, fun _ => rfl⟩
  · refine ⟨?_, ?_, ?_, fun ch => by rw [chan_wakeUp]⟩ <;> rw [only_wakeUp s] <;> rfl

/-- What a sample's change of one input's level does (R46, R47). -/
def State.takeChange (s : State) (l : PinLevels) (t : State) (w : WiredInput) : State :=
  t.inputChange (s.pinActivates l (pinOf w)) (s.pinDeactivates l (pinOf w)) w

theorem wiredSample_eq (s : State) (l : PinLevels) : s.wiredSample l = [.brake, .hazard, .reverse].foldl (s.takeChange l)
    (if s.anyActivates l = true then (s.samplePins l).awake else s.samplePins l) := rfl

/-- A sample that changes the level of one input at most. -/
theorem wiredSample_of_one {s : State} {l : PinLevels} {w : WiredInput}
    (still : ∀ j, j ≠ w → (s.samplePins l).level (pinOf j) = s.level (pinOf j)) : s.wiredSample l =
      s.takeChange l (if s.anyActivates l = true then (s.samplePins l).awake else s.samplePins l) w := by
  have quiet : ∀ j t, j ≠ w → s.takeChange l t j = t := fun j t hj => by
    unfold State.takeChange
    rw [not_activates_of_same (still j hj), not_deactivates_of_same (still j hj), inputChange_none]
  rw [wiredSample_eq]
  generalize (if s.anyActivates l = true then (s.samplePins l).awake else s.samplePins l) = t
  simp only [List.foldl_cons, List.foldl_nil]
  cases w with
  | brake => rw [quiet .hazard _ (by decide), quiet .reverse _ (by decide)]
  | hazard => rw [quiet .brake _ (by decide), quiet .reverse _ (by decide)]
  | reverse => rw [quiet .brake _ (by decide), quiet .hazard _ (by decide)]

theorem anyActivates_of {s : State} {l : PinLevels} {p : Pin} (h : s.pinActivates l p = true) :
    s.anyActivates l = true := by
  unfold State.anyActivates
  cases p <;> simp [h]

theorem flashGroup_wiredEntry (p : Profile) (g : Sys2Proof.Group) :
    p.wiredEntry.flashGroup = some g ↔ p.bindMode = .flash g := by
  unfold Profile.wiredEntry
  cases p.bindMode <;> simp [Entry.flashGroup]

/-- The WIRED entry on a bound channel behind an activation (R46, R107, R108). -/
theorem startIfIdle_wiredEntry (s : State) (p : Profile) : some (s.startIfIdle p.wiredEntry) =
    match p.bindMode with
    | .steady => some (.steady p.bindDuty false)
    | .flash g => some (.flash p.bindDuty g 0 0 (decide ((s.group g).phase = .idle)) false) := by
  unfold Profile.wiredEntry State.startIfIdle
  cases p.bindMode with
  | steady => rfl
  | flash g =>
    by_cases idle : (s.group g).phase = .idle
    · simp [Entry.flashGroup, Entry.start, idle]
    · simp [Entry.flashGroup, idle]

theorem onlyAdmission_slot {s t : State} (h : OnlyAdmission s t) (x : Ch) (y : Client) : t.slot x y = s.slot x y := by
  unfold State.slot
  rw [h.demand]

theorem onlyAdmission_group {s t : State} (h : OnlyAdmission s t) (g : Sys2Proof.Group) : t.group g = s.group g := by
  unfold State.group
  rw [h.groups]

theorem activateInput_beyond (s : State) (w : WiredInput) :
    State.SameBeyondDemands { s with placed := (s.activateInput w).placed } (s.activateInput w) ∧
      (s.activateInput w).ports = s.ports ∧ (s.activateInput w).quiet = s.quiet := by
  obtain ⟨only, learned, _⟩ := handedTo_activateInput s w
  have placed := placeWired_eq s w
  have learned' : Learned { s with placed := (s.activateInput w).placed } (s.activateInput w) :=
    (handed_of_chans (chan_placeWired s w)).learned.trans learned
  generalize s.activateInput w = u at *
  generalize s.placeWired w = t at *
  have all : u = { s with chans := u.chans, adm := u.adm, bridges := u.bridges, demand := t.demand
                          groups := t.groups, placed := t.placed } := by rw [only, placed]
  refine ⟨⟨?_, ?_, ?_, ?_, ?_, rfl, ?_, ?_, ?_, learned'⟩, ?_, ?_⟩ <;> rw [all]

/-- Settles O20. -/
theorem inputsPlaceAndRemoveEntries : Obligations.InputsPlaceAndRemoveEntries := by
  unfold Obligations.InputsPlaceAndRemoveEntries
  refine ⟨fun w l s on => ?_, fun w l s running => ?_⟩
  · intro p pins was is_ still v u bound
    have activates : s.pinActivates l p = true := (pinActivates_iff s l p).mpr ⟨was, is_⟩
    have sample : s.wiredSample l = u := by
      rw [wiredSample_of_one still, if_pos (anyActivates_of activates)]
      exact if_pos activates
    have activation : exec (.inputActivation w l) s = .next (State.settle s u) :=
      congrArg _ ((run_event s (fun t => t.pinActivates l p) (fun t => t.wiredSample l) on activates).trans
        (congrArg (State.settle s) sample))
    obtain ⟨demand, groups, placed, profile⟩ := awake_keeps pins
    obtain ⟨only, learned, handed, same⟩ := handedTo_activateInput v w
    obtain ⟨beyond, ports, quiet⟩ := activateInput_beyond v w
    have slotV : ∀ x y, v.slot x y = s.slot x y := fun x y => congrArg (fun d => (d[x]).get y) demand
    have groupV : ∀ g, v.group g = s.group g := fun g => congrArg (fun d : Pair FlashGroup => d.get g) groups
    have mem : ∀ ch, ch ∈ v.boundChannels w ↔ bound ch := fun ch => by
      rw [mem_boundChannels, show (v.chan ch).profile = (s.chan ch).profile from profile ch]
    have boundList : v.boundChannels w = allChannels.filter fun ch => decide (bound ch) := by
      rw [boundChannels_eq]
      refine List.filter_congr fun ch _ => ?_
      rw [show (v.chan ch).profile = (s.chan ch).profile from profile ch]
    have slot : ∀ x y, u.slot x y = if x ∈ v.boundChannels w ∧ y = .wired
        then some (v.startIfIdle (v.chan x).profile.wiredEntry) else v.slot x y := fun x y =>
      (onlyAdmission_slot only x y).trans (slot_placeWired v w x y)
    have placedU : u.placed = placedAfter v.placed w (v.boundChannels w) := only.placed.trans (placed_placeWired v w)
    refine ⟨?_, activation, fun ch isBound => ⟨handed ch ((mem ch).mpr isBound), ?_⟩, fun ch x other => ?_,
      fun ch unbound => ?_, ?_, fun j other => ?_, fun g idle ⟨ch, isBound, mode⟩ => ?_, fun g stays => ?_,
      beyond, ports, quiet⟩
    · rw [activation]
      exact (runs_to (fun _ => rfl) on sample).symm
    · have stands := startIfIdle_wiredEntry v (s.chan ch).profile
      simp only [groupV] at stands
      rw [slot, if_pos ⟨(mem ch).mpr isBound, rfl⟩, show (v.chan ch).profile = (s.chan ch).profile from profile ch]
      exact stands
    · rw [slot, if_neg fun h => other ⟨(mem ch).mp h.1, h.2⟩, slotV]
    · exact SameWish.trans ((handed_of_chans (chan_placeWired v w)).sameWish ch) (same ch fun h => unbound ((mem ch).mp h))
    · rw [placedU, placedAfter_get, if_pos rfl, boundList]
    · rw [placedU, placedAfter_get, if_neg other, show v.placed = s.placed from placed]
      refine List.filter_congr fun ch _ => ?_
      rw [Bool.eq_iff_iff]
      simp [mem]
    · obtain ⟨r, phase, timer, eq⟩ := group_placeWired v w g
      have starts : (v.group g).phase = .idle ∧
          ∃ ch ∈ v.boundChannels w, (v.chan ch).profile.wiredEntry.flashGroup = some g := by
        refine ⟨by rw [groupV]; exact idle, ch, (mem ch).mpr isBound, ?_⟩
        rw [show (v.chan ch).profile = (s.chan ch).profile from profile ch]
        exact (flashGroup_wiredEntry _ _).mpr mode
      rw [onlyAdmission_group only, eq, if_pos starts]
      exact ⟨phase, timer⟩
    · obtain ⟨r, _, _, eq⟩ := group_placeWired v w g
      rw [onlyAdmission_group only, eq, if_neg, groupV]
      rintro ⟨idle, ch, isBound, on_⟩
      refine stays ⟨by rw [← groupV]; exact idle, ch, (mem ch).mp isBound, ?_⟩
      rw [← show (v.chan ch).profile = (s.chan ch).profile from profile ch]
      exact (flashGroup_wiredEntry _ _).mp on_
  · intro p v was is_ still u placed
    have deactivates : s.pinDeactivates l p = true := (pinDeactivates_iff s l p).mpr ⟨was, is_⟩
    have stays : s.pinActivates l p = false := by
      rw [← Bool.not_eq_true, pinActivates_iff, was]
      simp
    have sample : s.wiredSample l = u := by
      rw [wiredSample_of_one still, awake_of_active v running.2, ite_self, State.takeChange, stays, deactivates]
      rfl
    have deactivation : exec (.inputDeactivation w l) s = .next (State.settle s u) :=
      congrArg _ ((run_event s (fun t => t.pinDeactivates l p) (fun t => t.wiredSample l) running.1 deactivates).trans
        (congrArg (State.settle s) sample))
    obtain ⟨empty, others, handed, same, groups, ports, beyond⟩ :=
      removedTo_removeEntries .wired (s.placed.get w) { v with placed := v.placed.set w [] }
    have only : OnlyDemand { v with placed := v.placed.set w [] } u :=
      only_overChannels OnlyDemand.refl OnlyDemand.trans (f := fun ch t => t.removeEntry ch .wired)
        (fun _ _ => only_removeEntry _ _ _) _ _
    have placedU : u.placed = s.placed.set w [] := beyond.2.2.2.2.2.1
    refine ⟨?_, deactivation, fun ch isPlaced => ⟨empty ch isPlaced, fun stands => handed ch isPlaced stands⟩, others,
      fun ch unplaced => same ch fun h => unplaced h.1, fun j => ?_, ?_, groups, ports, only.toBlocks.quiet⟩
    · rw [deactivation]
      exact (runs_to (fun _ => rfl) running.1 sample).symm
    · rw [placedU]
      cases w <;> cases j <;> rfl
    · rw [placedU]
      exact beyond

end Sys2Proof.Machine
end

section
/-!
PROOF. The values of a sense sample (R69, R70, R72, R73) and which checks it makes (R76).
-/
namespace Sys2Proof.Machine

variable {i : Instr}

/-! ### The values -/

section
variable (s : State) (ch : Ch) (rms : Nat) (onCur : Option Nat)

theorem sensed_eq : s.sensed ch onCur =
    if (s.chan ch).conducted = true ∨ s.conducts ch = true then onCur else none := by
  unfold State.sensed State.sampleConducted
  exact if_congr (by rw [Bool.or_eq_true]) rfl rfl

theorem sampleRms_eq : s.sampleRms ch rms onCur =
    if s.sensed ch onCur = none then 0 else min (typeOf ch).fullScale rms := by
  unfold State.sampleRms deliveredRms
  cases s.sensed ch onCur <;> simp

theorem sampleOn_eq : s.sampleOn ch onCur = (s.sensed ch onCur).map fun x => min (typeOf ch).fullScale x := rfl

end

/-- Q never falls below 0: T is not negative, and the step is a part of the distance (R73, R74). -/
theorem heatUpdate_cast (tau i q : Nat) : ((heatUpdate tau i q : Nat) : Int) =
    (q : Int) + Int.fdiv ((i * i * 256 : Nat) - (q : Int)) (2 ^ tau) := by
  have pow : (0 : Int) < 2 ^ tau := by positivity
  rw [Int.fdiv_eq_ediv_of_nonneg _ pow.le]
  have least : -(q : Int) ≤ ((i * i * 256 : Nat) - (q : Int)) / 2 ^ tau := by
    rw [Int.le_ediv_iff_mul_le pow]
    have : (q : Int) * 1 ≤ q * 2 ^ tau := Int.mul_le_mul_of_nonneg_left (by omega) (by omega)
    have : (0 : Int) ≤ (i * i * 256 : Nat) := by positivity
    linarith
  unfold heatUpdate
  push_cast at least ⊢
  exact Int.toNat_of_nonneg (by omega)

theorem heatUpdate_eq (tau i q : Nat) : heatUpdate tau i q =
    ((q : Int) + Int.fdiv ((i * i * 256 : Nat) - (q : Int)) (2 ^ tau)).toNat := by
  rw [← heatUpdate_cast, Int.toNat_natCast]

/-! ### The values kept -/

/-- The state with a sample's on-current stored as a bridge's last drive current (R120). -/
def State.driveCurrentKept (s : State) (ch : Ch) (o : Option Nat) : State :=
  match bridgeOf ch with
  | some br => s.storeDriveCurrent br o
  | none => s

theorem driveCurrentKept_of_pwm {s : State} {ch : Ch} (o : Option Nat) (h : bridgeOf ch = none) :
    s.driveCurrentKept ch o = s := by
  unfold State.driveCurrentKept
  rw [h]

theorem driveCurrentKept_of_bridge {s : State} {ch : Ch} {br : Bridge} (o : Option Nat) (h : bridgeOf ch = some br) :
    s.driveCurrentKept ch o = s.storeDriveCurrent br o := by
  unfold State.driveCurrentKept
  rw [h]

/-- At most the last drive current of a bridge differs. -/
theorem driveCurrentKept_only (s : State) (ch : Ch) (o : Option Nat) :
    s.driveCurrentKept ch o = { s with bridges := (s.driveCurrentKept ch o).bridges } := by
  unfold State.driveCurrentKept State.storeDriveCurrent
  split
  · split
    · rfl
    · rfl
  · rfl

theorem keepSample_eq (s : State) (ch : Ch) (i : Nat) (o : Option Nat) : s.keepSample ch i o =
    (s.driveCurrentKept ch o).setChan ch ((s.chan ch).takeSample i o) := by
  unfold State.keepSample State.driveCurrentKept State.storeDriveCurrent
  cases bridgeOf ch with
  | none => rfl
  | some br =>
    dsimp only
    rw [State.bridge_setChan]
    split
    · rfl
    · rfl

theorem chan_keepSample (s : State) (ch : Ch) (i : Nat) (o : Option Nat) :
    (s.keepSample ch i o).chan ch = (s.chan ch).takeSample i o := by
  rw [keepSample_chan, if_pos rfl]

theorem takeSample_eq (c : Channel) (i : Nat) (o : Option Nat) : c.takeSample i o = { c with
    lastRms := i, lastOn := o
    q := ((c.q : Int) + Int.fdiv ((i * i * 256 : Nat) - (c.q : Int)) (2 ^ c.profile.tau)).toNat
    conducted := false } := by
  rw [← heatUpdate_eq]
  rfl

/-! ### Which checks are made (R76, R82, R19) -/

section
variable {s : State} {ch : Ch} (i : Nat) (o : Option Nat)

theorem checkSample_trips {cause : TripCause} (admitted : (s.chan ch).admitted = true)
    (trips : (s.chan ch).tripCauseOf o = some cause) : s.checkSample ch i o = s.trip ch cause i o := by
  unfold State.checkSample
  dsimp only
  rw [if_pos admitted, trips]

theorem checkSample_pwm (admitted : (s.chan ch).admitted = true) (calm : (s.chan ch).tripCauseOf o = none)
    (pwm : bridgeOf ch = none) : s.checkSample ch i o = s.openCheck ch o := by
  unfold State.checkSample
  dsimp only
  rw [if_pos admitted, calm, pwm]

theorem checkSample_bridge {br : Bridge} (admitted : (s.chan ch).admitted = true)
    (calm : (s.chan ch).tripCauseOf o = none) (bridge : bridgeOf ch = some br) :
    s.checkSample ch i o = (s.openCheck ch o).stallCheck br o := by
  unfold State.checkSample
  dsimp only
  rw [if_pos admitted, calm, bridge]

theorem checkSample_cools (tripped : (s.chan ch).st = .tripped) : s.checkSample ch i o = s.coolCheck ch := by
  have out : ¬ (s.chan ch).admitted = true := by rw [Channel.admitted_iff, tripped]; decide
  unfold State.checkSample
  dsimp only
  rw [if_neg out, if_pos tripped]

theorem checkSample_rests (resting : ¬ (s.chan ch).admitted = true) (h : (s.chan ch).st ≠ .tripped) :
    s.checkSample ch i o = s := by
  unfold State.checkSample
  dsimp only
  rw [if_neg resting, if_neg h]

end

/-! ### The trip checks (R76 to R78) -/

/-- The short check meets (R77). -/
def Channel.Short (c : Channel) (o : Option Nat) : Prop :=
  ∃ x, o = some x ∧ (if c.st = .ramping then c.profile.ishort else c.profile.short) ≤ x

theorem shortTrips_iff (c : Channel) (o : Option Nat) : c.shortTrips o = true ↔ c.Short o := by
  unfold Channel.shortTrips Channel.Short Channel.shortThreshold
  cases o <;> simp

theorem thermalTrips_iff (c : Channel) : c.thermalTrips = true ↔ c.profile.rated * c.profile.rated * 256 < c.q :=
  decide_eq_true_iff

theorem tripCauseOf_short {c : Channel} {o : Option Nat} (h : c.Short o) : c.tripCauseOf o = some .short :=
  if_pos ((shortTrips_iff c o).mpr h)

theorem tripCauseOf_thermal {c : Channel} {o : Option Nat} (short : ¬ c.Short o)
    (hot : c.profile.rated * c.profile.rated * 256 < c.q) : c.tripCauseOf o = some .thermal :=
  (if_neg fun h => short ((shortTrips_iff c o).mp h)).trans (if_pos ((thermalTrips_iff c).mpr hot))

theorem tripCauseOf_none {c : Channel} {o : Option Nat} (short : ¬ c.Short o)
    (cold : c.q ≤ c.profile.rated * c.profile.rated * 256) : c.tripCauseOf o = none :=
  (if_neg fun h => short ((shortTrips_iff c o).mp h)).trans
    (if_neg fun h => absurd ((thermalTrips_iff c).mp h) (by omega))

end Sys2Proof.Machine
end

section
/-!
PROOF. Samples that trip (R18, R53, R76 to R80, R120, R123).
-/
namespace Sys2Proof.Machine

variable {i : Instr}

/-- A sense sample that is checked on values known. -/
theorem senseSample_of {s : State} {ch : Ch} {rms i : Nat} {onCur o : Option Nat} (hi : s.sampleRms ch rms onCur = i)
    (ho : s.sampleOn ch onCur = o) : s.senseSample ch rms onCur = (s.keepSample ch i o).checkSample ch i o := by
  unfold State.senseSample
  rw [hi, ho]

theorem exec_senseSample {s t : State} {ch : Ch} {rms : Nat} {onCur : Option Nat} (running : s.Running)
    (h : s.senseSample ch rms onCur = t) : exec (.senseSample ch rms onCur) s = .next (State.settle s t) :=
  congrArg _ ((run_active s (fun t => t.senseSample ch rms onCur) running).trans (congrArg (State.settle s) h))

theorem releaseClaims_told (k : State) (ch : Ch) (c c' : Channel) : ((k.setChan ch c).releaseClaims ch).setChan ch c' =
    (k.setUnit (feedOf ch) { k.unit (feedOf ch) with
      sumS := (k.unit (feedOf ch)).sumS - c.presentClaim
      sumR := (k.unit (feedOf ch)).sumR - c.profile.rclaim }).setChan ch c' := by
  unfold State.releaseClaims
  dsimp only
  rw [State.chan_setChan_same, State.unit_setChan]
  exact State.setChan_setChan (k.setUnit _ _) ch c c'

/-- The state behind a trip's record and its released claim, before its events (R18 steps 1 to 6). -/
def State.tripTold (k : State) (ch : Ch) (c : Channel) (cause : TripCause) (i : Nat) (o : Option Nat) (vavg : Nat) : State :=
  ((k.setUnit (feedOf ch) { k.unit (feedOf ch) with
      sumS := (k.unit (feedOf ch)).sumS - c.presentClaim
      sumR := (k.unit (feedOf ch)).sumR - c.profile.rclaim }).setChan ch (c.afterTrip cause i vavg)).offerEvent
    (.trip ch cause (tripFromOf c.st) i o (c.tripCount + 1))

/-- The state behind a trip's LOCK, where it locks (R18 step 6, R80). -/
def State.tripLocked (k : State) (ch : Ch) (c : Channel) (cause : TripCause) (i : Nat) (o : Option Nat) (vavg : Nat) : State :=
  if c.tripState = .locked then (k.tripTold ch c cause i o vavg).offerEvent (.lock ch (c.tripCount + 1) c.profile.retries)
  else k.tripTold ch c cause i o vavg

section
variable (k : State) (ch : Ch) (c : Channel) (cause : TripCause) (i : Nat) (o : Option Nat)

theorem trip_pwm (pwm : bridgeOf ch = none) : (k.setChan ch c).trip ch cause i o =
    (k.tripLocked ch c cause i o (k.monitor (feedOf ch)).vavg).examine (feedOf ch) := by
  unfold State.trip
  dsimp only
  rw [pwm, State.chan_setChan_same, State.monitor_setChan, releaseClaims_told]
  rfl

theorem trip_bridge {br : Bridge} (bridge : bridgeOf ch = some br) : (k.setChan ch c).trip ch cause i o =
    ((k.tripLocked ch c cause i o (k.monitor (feedOf ch)).vavg).dropDrive true br .tripped).examine (feedOf ch) := by
  unfold State.trip
  dsimp only
  rw [bridge, State.chan_setChan_same, State.monitor_setChan, releaseClaims_told]
  rfl

end

theorem presentClaim_admitted {c : Channel} (h : c.st = .ramping ∨ c.st = .on) :
    c.presentClaim = if c.st = .ramping then c.profile.iclaim else c.profile.rclaim := by
  unfold Channel.presentClaim
  rcases h with h | h <;> rw [h] <;> rfl

theorem tripFromOf_admitted {st : ChState} (h : st = .ramping ∨ st = .on) :
    tripFromOf st = if st = .ramping then .ramping else .on := by
  rcases h with rfl | rfl <;> rfl

theorem unit_driveCurrentKept (s : State) (ch : Ch) (o : Option Nat) (f : Feed) :
    (s.driveCurrentKept ch o).unit f = s.unit f := by
  rw [driveCurrentKept_only]
  rfl

theorem monitor_driveCurrentKept (s : State) (ch : Ch) (o : Option Nat) (f : Feed) :
    (s.driveCurrentKept ch o).monitor f = s.monitor f := by
  rw [driveCurrentKept_only]
  rfl

/-- Settles O26. -/
theorem samplesTrip : Obligations.SamplesTrip := by
  unfold Obligations.SamplesTrip
  intro ch rms onCur s running f c p full seen i o q ltrip short thermal cause from_ n st tripped kept released told
    locked dropped admitted meets
  have hi : s.sampleRms ch rms onCur = i := by rw [sampleRms_eq, sensed_eq]
  have ho : s.sampleOn ch onCur = o := by rw [sampleOn_eq, sensed_eq]
  have heat : (c.takeSample i o).q = q := heatUpdate_eq c.profile.tau i c.q
  have causes : (c.takeSample i o).tripCauseOf o = some cause := by
    by_cases isShort : short
    · rw [show cause = .short from if_pos isShort]
      exact tripCauseOf_short isShort
    · rw [show cause = .thermal from if_neg isShort]
      exact tripCauseOf_thermal isShort (by rw [heat]; exact meets.resolve_left isShort)
  have raised : (c.takeSample i o).qAfterTrip cause = if short then max q (ltrip + 256) else q := by
    unfold Channel.qAfterTrip
    rw [heat]
    by_cases isShort : short
    · rw [show cause = .short from if_pos isShort, if_pos rfl, if_pos isShort]
      rfl
    · rw [show cause = .thermal from if_neg isShort, if_neg isShort]
      rfl
  have record : (c.takeSample i o).tripRecordOf cause i (s.monitor f).vavg =
      ⟨cause, i, q, (s.monitor f).vavg, from_, c.pending, n⟩ := by
    unfold Channel.tripRecordOf
    rw [heat, show tripFromOf (c.takeSample i o).st = from_ from tripFromOf_admitted admitted]
    rfl
  have after : (c.takeSample i o).afterTrip cause i (s.monitor f).vavg = tripped := by
    unfold Channel.afterTrip
    rw [raised, record]
    rfl
  have kept_eq : s.driveCurrentKept ch o = kept := rfl
  have told_eq : (s.driveCurrentKept ch o).tripTold ch (c.takeSample i o) cause i o (s.monitor f).vavg = told := by
    unfold State.tripTold
    rw [unit_driveCurrentKept, after, show tripFromOf (c.takeSample i o).st = from_ from tripFromOf_admitted admitted,
      show (c.takeSample i o).presentClaim = _ from presentClaim_admitted (c := c.takeSample i o) admitted, kept_eq]
    rfl
  have locked_eq : (s.driveCurrentKept ch o).tripLocked ch (c.takeSample i o) cause i o (s.monitor f).vavg = locked := by
    unfold State.tripLocked
    rw [told_eq]
    rfl
  refine exec_senseSample running ((senseSample_of hi ho).trans ?_)
  rw [checkSample_trips i o (by rw [chan_keepSample]; exact (Channel.admitted_iff _).mpr admitted)
    (by rw [chan_keepSample]; exact causes), keepSample_eq]
  cases bridge : bridgeOf ch with
  | none =>
    rw [trip_pwm _ _ _ _ _ _ bridge, monitor_driveCurrentKept, locked_eq]
    dsimp only [dropped]
    rw [bridge]
  | some br =>
    rw [trip_bridge _ _ _ _ _ _ bridge, monitor_driveCurrentKept, locked_eq]
    dsimp only [dropped]
    rw [bridge]

end Sys2Proof.Machine
end

section
/-!
PROOF. Samples that do not trip: cooling, open load, and the heat of every sample (R19, R69 to R73, R76 to R84).
-/
namespace Sys2Proof.Machine

variable {i : Instr}

/-! ### Cooling (R19, R80) -/

section
variable {k : State} {ch : Ch} {c : Channel}

theorem coolCheck_hot (h : ¬ c.q ≤ c.profile.rated * c.profile.rated * 64) :
    (k.setChan ch c).coolCheck ch = k.setChan ch c := by
  unfold State.coolCheck
  dsimp only
  rw [State.chan_setChan_same]
  exact if_neg h

theorem coolCheck_unwanted (h : c.q ≤ c.profile.rated * c.profile.rated * 64) (wish : c.wish = false) :
    (k.setChan ch c).coolCheck ch = k.setChan ch { c with st := .off } := by
  unfold State.coolCheck
  dsimp only
  rw [State.chan_setChan_same]
  refine (if_pos h).trans ((if_neg (by simp [wish])).trans ?_)
  exact State.setChan_setChan k ch c _

theorem coolCheck_retries (h : c.q ≤ c.profile.rated * c.profile.rated * 64) (wish : c.wish = true) :
    (k.setChan ch c).coolCheck ch = ((k.setChan ch c).offerEvent
      (.retry ch (startState (k.monitor (feedOf ch)).st c.profile.cls) c.tripCount c.q)).start ch := by
  unfold State.coolCheck State.startStateOf
  dsimp only
  rw [State.chan_setChan_same]
  exact (if_pos h).trans (if_pos wish)

end

theorem startState_eq (fs : FeedState) (cls : Nat) : startState fs cls =
    if fs = .cut ∨ (fs = .surge ∧ 2 ≤ cls) then .suspended else if cls = 0 then .ramping else .waiting := by
  unfold startState
  by_cases cut : fs = .cut
  · rw [if_pos cut, if_pos (.inl cut)]
  · by_cases surge : fs = .surge ∧ 2 ≤ cls
    · rw [if_neg cut, if_pos surge, if_pos (.inr surge)]
    · rw [if_neg cut, if_neg surge, if_neg (not_or.mpr ⟨cut, surge⟩)]

/-- Settles O27. -/
theorem coolingChannelsRetryOrGoOff : Obligations.CoolingChannelsRetryOrGoOff := by
  unfold Obligations.CoolingChannelsRetryOrGoOff
  intro ch rms onCur s running f c full seen i o q cool sampled fs cls suspends entered kept retried waits placed outcome
    noRamping noOn
  have resting : ¬ c.admitted = true := by
    rw [Channel.admitted_iff]
    exact not_or.mpr ⟨noRamping, noOn⟩
  have hi : s.sampleRms ch rms onCur = i := by rw [sampleRms_eq, sensed_eq]
  have ho : s.sampleOn ch onCur = o := by rw [sampleOn_eq, sensed_eq]
  have sampled_eq : c.takeSample i o = sampled := takeSample_eq c i o
  have kept_eq : s.driveCurrentKept ch o = kept := rfl
  have keeps : s.keepSample ch i o = kept.setChan ch sampled := by rw [keepSample_eq, kept_eq, ← sampled_eq]
  have chan : (kept.setChan ch sampled).chan ch = sampled := State.chan_setChan_same _ _ _
  have monitor : kept.monitor f = s.monitor f := monitor_driveCurrentKept s ch o f
  have samples : ∀ t, (kept.setChan ch sampled).checkSample ch i o = t → outcome t := fun t h =>
    exec_senseSample running ((senseSample_of hi ho).trans (by rw [keeps, h]))
  have cools : c.st = .tripped → (kept.setChan ch sampled).checkSample ch i o = (kept.setChan ch sampled).coolCheck ch :=
    fun tripped => checkSample_cools i o (by rw [chan]; exact tripped)
  have retries : c.st = .tripped → cool → c.wish = true →
      (kept.setChan ch sampled).checkSample ch i o = retried.start ch := fun tripped isCool wish => by
    rw [cools tripped, coolCheck_retries (c := sampled) isCool wish, monitor, startState_eq]
  have retried_chan : retried.chan ch = sampled := chan
  have retried_monitor : (retried.monitor f).st = fs := congrArg Monitor.st monitor
  refine ⟨fun rests => samples _ ?_, fun tripped isCool wish => samples _ ?_, fun tripped isCool wish =>
    ⟨fun isSuspended => samples _ ?_, fun runs bypass => samples _ ?_, fun runs ranked => samples _ ?_⟩⟩
  · by_cases tripped : c.st = .tripped
    · rw [cools tripped]
      exact coolCheck_hot (rests.resolve_left (not_not.mpr tripped))
    · exact checkSample_rests i o (by rw [chan]; exact resting) (by rw [chan]; exact tripped)
  · rw [cools tripped]
    exact coolCheck_unwanted isCool wish
  · rw [retries tripped isCool wish, start_suspended (by rw [retried_monitor, retried_chan]; exact isSuspended),
      retried_chan]
  · rw [retries tripped isCool wish]
    exact start_bypass (by rw [retried_monitor]; exact fun cut => runs (.inl cut)) (by rw [retried_chan]; exact bypass)
  · rw [retries tripped isCool wish, start_waiting (by rw [retried_monitor]; exact fun cut => runs (.inl cut))
      (by rw [retried_monitor, retried_chan]; exact fun surge => runs (.inr surge)) (by rw [retried_chan]; exact ranked)]
    have unit : (retried.setChan ch { sampled with st := .waiting }).unit f = s.unit f :=
      unit_driveCurrentKept s ch o f
    unfold State.place
    dsimp only
    rw [retried_chan, unit]

/-! ### Open load (R82 to R84) -/

section
variable {k : State} {ch : Ch} {c : Channel}

theorem openCheck_uncounted {o : Option Nat} (h : c.countedCurrent o = none) :
    (k.setChan ch c).openCheck ch o = k.setChan ch c := by
  unfold State.openCheck
  dsimp only
  rw [State.chan_setChan_same, h]

theorem openCheck_counted {o : Nat} (h : c.countedCurrent (some o) = some o) :
    (k.setChan ch c).openCheck ch (some o) =
      if c.setsOpen o = true then
        (k.setChan ch { c.countOpen o with openFlag := true }).offerEvent (.openSet ch o c.profile.openThr)
      else if c.clearsOpen o = true then
        (k.setChan ch { c.countOpen o with openFlag := false }).offerEvent (.openClear ch o c.profile.openThr)
      else k.setChan ch (c.countOpen o) := by
  have again : ∀ d, (k.setChan ch c).setChan ch d = k.setChan ch d := State.setChan_setChan k ch c
  unfold State.openCheck
  dsimp only
  rw [State.chan_setChan_same, h]
  dsimp only
  rw [again, again, again]

end

theorem setsOpen_iff (c : Channel) (o : Nat) : c.setsOpen o = true ↔
    o < c.profile.openThr ∧ min 100 (c.lowCount + 1) = 100 ∧ c.openFlag = false := by
  unfold Channel.setsOpen Channel.countOpen
  by_cases low : o < c.profile.openThr <;> simp [low]

theorem clearsOpen_iff (c : Channel) (o : Nat) : c.clearsOpen o = true ↔
    c.profile.openThr ≤ o ∧ min 100 (c.goodCount + 1) = 100 ∧ c.openFlag = true := by
  unfold Channel.clearsOpen Channel.countOpen
  by_cases low : o < c.profile.openThr
  · simp [low, Nat.not_le.mpr low]
  · simp [low, Nat.not_lt.mp low]

theorem run_sampleDue {s : State} {due : State → Bool} (running : s.Running) {ch : Ch} {rms : Nat} {onCur : Option Nat}
    (h : due s = true) : s.run (whenActive (whenDue due fun t => t.senseSample ch rms onCur)) =
      State.settle s (s.senseSample ch rms onCur) := run_due s due (fun t => t.senseSample ch rms onCur) running h

end Sys2Proof.Machine
end

section
/-!
PROOF. The open-load count of a sample, behind which a bridge makes its stall check (R82 to R84, R120).
-/
namespace Sys2Proof.Machine

variable {i : Instr}

/-- The stall check of a bridge's sample, nothing on another channel (R120). -/
def State.stallChecked (s : State) (ch : Ch) (o : Option Nat) : State :=
  match bridgeOf ch with
  | some br => s.stallCheck br o
  | none => s

theorem stallChecked_of_pwm {s : State} {ch : Ch} (o : Option Nat) (h : bridgeOf ch = none) : s.stallChecked ch o = s := by
  unfold State.stallChecked
  rw [h]

theorem stallChecked_of_bridge {s : State} {ch : Ch} {br : Bridge} (o : Option Nat) (h : bridgeOf ch = some br) :
    s.stallChecked ch o = s.stallCheck br o := by
  unfold State.stallChecked
  rw [h]

/-- An admitted channel's sample that does not trip (R76, R82). -/
theorem checkSample_calm {s : State} {ch : Ch} (i : Nat) {o : Option Nat} (admitted : (s.chan ch).admitted = true)
    (calm : (s.chan ch).tripCauseOf o = none) : s.checkSample ch i o = (s.openCheck ch o).stallChecked ch o := by
  cases bridge : bridgeOf ch with
  | none => rw [checkSample_pwm i o admitted calm bridge, stallChecked_of_pwm o bridge]
  | some br => rw [checkSample_bridge i o admitted calm bridge, stallChecked_of_bridge o bridge]

theorem calm_of {c : Channel} {o : Option Nat}
    (below : ∀ x, o = some x → x < if c.st = .ramping then c.profile.ishort else c.profile.short)
    (cold : c.q ≤ c.profile.rated * c.profile.rated * 256) : c.tripCauseOf o = none :=
  tripCauseOf_none (fun ⟨x, hx, reaches⟩ => absurd (below x hx) (Nat.not_lt.mpr reaches)) cold

/-- Settles O28. -/
theorem openLoadIsCounted : Obligations.OpenLoadIsCounted := by
  unfold Obligations.OpenLoadIsCounted
  refine ⟨fun ch rms x s running => ?_, fun ch rms onCur s running => ?_⟩
  · intro c p full i o q sampled low good counted sets clears kept checked outcome conducts on watched below cold
    have sensed : s.sensed ch (some x) = some x := (sensed_eq s ch (some x)).trans (if_pos conducts)
    have hi : s.sampleRms ch rms (some x) = i := by rw [sampleRms_eq, sensed, if_neg (by simp)]
    have ho : s.sampleOn ch (some x) = some o := by rw [sampleOn_eq, sensed]; rfl
    have sampled_eq : c.takeSample i (some o) = sampled := takeSample_eq c i (some o)
    have kept_eq : s.driveCurrentKept ch (some o) = kept := rfl
    have keeps : s.keepSample ch i (some o) = kept.setChan ch sampled := by rw [keepSample_eq, kept_eq, ← sampled_eq]
    have chan : (kept.setChan ch sampled).chan ch = sampled := State.chan_setChan_same _ _ _
    have admitted : sampled.admitted = true := (Channel.admitted_iff _).mpr (.inr on)
    have calm : sampled.tripCauseOf (some o) = none := by
      refine calm_of (fun y hy => ?_) cold
      cases hy
      rw [show sampled.st = .on from on]
      exact below
    have counts : ∀ d : Channel, d.st = c.st → d.profile = c.profile → d.countedCurrent (some o) = some o := fun d st profile => by
      unfold Channel.countedCurrent
      rw [st, profile]
      exact if_pos ⟨on, watched⟩
    have counted_eq : sampled.countOpen o = counted := by
      unfold Channel.countOpen
      exact if_congr Iff.rfl rfl rfl
    have sets_iff : sampled.setsOpen o = true ↔ sets := setsOpen_iff sampled o
    have clears_iff : sampled.clearsOpen o = true ↔ clears := clearsOpen_iff sampled o
    have sample : s.senseSample ch rms (some x) = checked ((kept.setChan ch sampled).openCheck ch (some o)) := by
      rw [senseSample_of hi ho, keeps, checkSample_calm i (by rw [chan]; exact admitted) (by rw [chan]; exact calm)]
      rfl
    have sampleCounts : s.sampleCounts ch rms (some x) = true := by
      unfold State.sampleCounts
      rw [hi, ho]
      change ((c.takeSample i (some o)).admitted && decide ((c.takeSample i (some o)).tripCauseOf (some o) = none)) = true
      rw [sampled_eq, admitted, calm]
      rfl
    have opens := openCheck_counted (k := kept) (ch := ch) (counts sampled rfl rfl)
    rw [counted_eq] at opens
    refine ⟨fun noSet noClear => ?_, fun isSet => ?_, fun isClear => ?_⟩
    · rw [if_neg fun h => noSet (sets_iff.mp h), if_neg fun h => noClear (clears_iff.mp h)] at opens
      exact exec_senseSample running (sample.trans (congrArg checked opens))
    · rw [if_pos (sets_iff.mpr isSet)] at opens
      have due : s.sampleSetsOpen ch rms (some x) = true := by
        unfold State.sampleSetsOpen
        rw [sampleCounts, ho, counts (s.chan ch) rfl rfl]
        exact (setsOpen_iff (s.chan ch) o).mpr isSet
      have opened : exec (.openSet ch rms (some x)) s = .next (State.settle s (s.senseSample ch rms (some x))) :=
        congrArg _ (run_sampleDue (due := fun t => t.sampleSetsOpen ch rms (some x)) running due)
      exact ⟨opened.trans (congrArg _ (congrArg (State.settle s) (sample.trans (congrArg checked opens)))),
        (exec_senseSample running rfl).trans opened.symm⟩
    · have noSet : ¬ sampled.setsOpen o = true := fun h =>
        absurd (sets_iff.mp h).1 (Nat.not_lt.mpr isClear.1)
      rw [if_neg noSet, if_pos (clears_iff.mpr isClear)] at opens
      have due : s.sampleClearsOpen ch rms (some x) = true := by
        unfold State.sampleClearsOpen
        rw [sampleCounts, ho, counts (s.chan ch) rfl rfl]
        exact (clearsOpen_iff (s.chan ch) o).mpr isClear
      have cleared : exec (.openClear ch rms (some x)) s = .next (State.settle s (s.senseSample ch rms (some x))) :=
        congrArg _ (run_sampleDue (due := fun t => t.sampleClearsOpen ch rms (some x)) running due)
      exact ⟨cleared.trans (congrArg _ (congrArg (State.settle s) (sample.trans (congrArg checked opens)))),
        (exec_senseSample running rfl).trans cleared.symm⟩
  · intro c p full seen i o q sampled uncounted below cold
    have hi : s.sampleRms ch rms onCur = i := by rw [sampleRms_eq, sensed_eq]
    have ho : s.sampleOn ch onCur = o := by rw [sampleOn_eq, sensed_eq]
    have sampled_eq : s.setChan ch (c.takeSample i o) = sampled := by rw [takeSample_eq]
    have keeps : s.keepSample ch i o = (s.driveCurrentKept ch o).setChan ch (c.takeSample i o) := keepSample_eq s ch i o
    have admitted : c.st = .ramping ∨ c.st = .on := uncounted.imp_right And.left
    have calm : (c.takeSample i o).tripCauseOf o = none := by
      refine calm_of below ?_
      rw [takeSample_eq]
      exact cold
    have skips : (c.takeSample i o).countedCurrent o = none := by
      unfold Channel.countedCurrent
      rcases uncounted with ramping | ⟨_, unwatched | none_⟩
      · exact if_neg fun h => absurd (ramping.symm.trans h.1) (by decide)
      · exact if_neg fun h => absurd h.2 (by rw [show (c.takeSample i o).profile.openThr = 0 from unwatched]; decide)
      · rw [none_, ite_self]
    have sample : s.senseSample ch rms onCur = (s.keepSample ch i o).stallChecked ch o := by
      rw [senseSample_of hi ho, checkSample_calm i
        (by rw [chan_keepSample]; exact (Channel.admitted_iff _).mpr admitted) (by rw [chan_keepSample]; exact calm),
        keeps, openCheck_uncounted skips]
    refine ⟨fun pwm => exec_senseSample running ?_, fun br bridge => exec_senseSample running ?_⟩
    · rw [sample, stallChecked_of_pwm o pwm, keeps, driveCurrentKept_of_pwm o pwm, sampled_eq]
    · rw [sample, stallChecked_of_bridge o bridge]
      unfold State.keepSample
      dsimp only
      rw [bridge]
      dsimp only
      rw [show s.setChan ch ((s.chan ch).takeSample i o) = sampled from sampled_eq]

end Sys2Proof.Machine
end

section
/-!
PROOF. The heat update of every sample (R69, R70, R73, R77, R81).
-/
namespace Sys2Proof.Machine

variable {i : Instr}

/-! ### What the checks leave of a sample's values -/

/-- Every channel keeps its latest currents and its Q. -/
def KeepsHeat (s t : State) : Prop := ∀ x, (t.chan x).q = (s.chan x).q ∧ (t.chan x).lastRms = (s.chan x).lastRms ∧
  (t.chan x).lastOn = (s.chan x).lastOn

theorem KeepsHeat.refl (s : State) : KeepsHeat s s := fun _ => ⟨rfl, rfl, rfl⟩

theorem KeepsHeat.trans {s t u : State} (h : KeepsHeat s t) (k : KeepsHeat t u) : KeepsHeat s u := fun x => by
  obtain ⟨h₁, h₂, h₃⟩ := h x
  obtain ⟨k₁, k₂, k₃⟩ := k x
  exact ⟨k₁.trans h₁, k₂.trans h₂, k₃.trans h₃⟩

theorem keepsHeat_of_learned {s t : State} (h : Learned s t) : KeepsHeat s t := fun x => by
  obtain ⟨_, _, q, _, _, _, lastRms, lastOn⟩ := h x
  exact ⟨q, lastRms, lastOn⟩

theorem keepsHeat_of_chans {s t : State} (h : t.chans = s.chans) : KeepsHeat s t :=
  keepsHeat_of_learned (handed_of_chans h).learned

theorem keepsHeat_setChan {k : State} {ch : Ch} {c d : Channel} (q : d.q = c.q) (lastRms : d.lastRms = c.lastRms)
    (lastOn : d.lastOn = c.lastOn) : KeepsHeat (k.setChan ch c) (k.setChan ch d) := fun x => by
  rw [State.chan_setChan, State.chan_setChan]
  split
  · exact ⟨q, lastRms, lastOn⟩
  · exact ⟨rfl, rfl, rfl⟩

theorem countOpen_heat (c : Channel) (o : Nat) : (c.countOpen o).q = c.q ∧ (c.countOpen o).lastRms = c.lastRms ∧
    (c.countOpen o).lastOn = c.lastOn := by
  unfold Channel.countOpen
  split
  · exact ⟨rfl, rfl, rfl⟩
  · exact ⟨rfl, rfl, rfl⟩

theorem countedCurrent_cases (c : Channel) (o : Option Nat) : c.countedCurrent o = none ∨
    ∃ x, o = some x ∧ c.countedCurrent (some x) = some x := by
  unfold Channel.countedCurrent
  split
  · cases o with
    | none => exact .inl rfl
    | some x => exact .inr ⟨x, rfl, rfl⟩
  · exact .inl rfl

theorem keepsHeat_openCheck (k : State) (ch : Ch) (c : Channel) (o : Option Nat) :
    KeepsHeat (k.setChan ch c) ((k.setChan ch c).openCheck ch o) := by
  rcases countedCurrent_cases c o with uncounted | ⟨x, rfl, counts⟩
  · rw [openCheck_uncounted uncounted]
    exact .refl _
  · obtain ⟨q, lastRms, lastOn⟩ := countOpen_heat c x
    rw [openCheck_counted counts]
    split
    · exact (keepsHeat_setChan (d := { c.countOpen x with openFlag := true }) q lastRms lastOn).trans
        (keepsHeat_of_chans rfl)
    · split
      · exact (keepsHeat_setChan (d := { c.countOpen x with openFlag := false }) q lastRms lastOn).trans
          (keepsHeat_of_chans rfl)
      · exact keepsHeat_setChan q lastRms lastOn

theorem contained_stallCheck (s : State) (br : Bridge) (o : Option Nat) : s.Contained (s.stallCheck br o) := by
  unfold State.stallCheck
  dsimp only
  split
  · split
    · exact (contained_setBridge s br _).trans (contained_endDrive _ br .stall)
    · exact contained_setBridge s br _
  · exact .refl s

theorem contained_stallChecked (s : State) (ch : Ch) (o : Option Nat) : s.Contained (s.stallChecked ch o) := by
  unfold State.stallChecked
  split
  · exact contained_stallCheck s _ o
  · exact .refl s

theorem keepsHeat_coolCheck (k : State) (ch : Ch) (c : Channel) :
    KeepsHeat (k.setChan ch c) ((k.setChan ch c).coolCheck ch) := by
  by_cases cool : c.q ≤ c.profile.rated * c.profile.rated * 64
  · cases wish : c.wish with
    | false =>
      rw [coolCheck_unwanted cool wish]
      exact keepsHeat_setChan rfl rfl rfl
    | true =>
      rw [coolCheck_retries cool wish]
      exact (keepsHeat_of_chans (t := (k.setChan ch c).offerEvent _) rfl).trans
        (keepsHeat_of_learned (handed_start _ ch).learned)
  · rw [coolCheck_hot cool]
    exact .refl _

/-- A sample that does not trip its channel. -/
theorem keepsHeat_checkSample (k : State) (ch : Ch) (c : Channel) (i : Nat) (o : Option Nat)
    (calm : c.admitted = true → c.tripCauseOf o = none) :
    KeepsHeat (k.setChan ch c) ((k.setChan ch c).checkSample ch i o) := by
  have chan : (k.setChan ch c).chan ch = c := State.chan_setChan_same _ _ _
  by_cases admitted : c.admitted = true
  · rw [checkSample_calm i (by rw [chan]; exact admitted) (by rw [chan]; exact calm admitted)]
    exact (keepsHeat_openCheck k ch c o).trans (keepsHeat_of_learned (contained_stallChecked _ ch o).2.2)
  · by_cases tripped : c.st = .tripped
    · rw [checkSample_cools i o (by rw [chan]; exact tripped)]
      exact keepsHeat_coolCheck k ch c
    · rw [checkSample_rests i o (by rw [chan]; exact admitted) (by rw [chan]; exact tripped)]
      exact .refl _

/-- A trip raises the Q of its channel, and moves no other value (R77, R78). -/
theorem keepsHeat_trip (k : State) (ch : Ch) (c : Channel) (cause : TripCause) (i : Nat) (o : Option Nat) :
    KeepsHeat (k.setChan ch { c with q := c.qAfterTrip cause }) ((k.setChan ch c).trip ch cause i o) := by
  have locked : ∀ vavg, KeepsHeat (k.setChan ch { c with q := c.qAfterTrip cause })
      (k.tripLocked ch c cause i o vavg) := fun vavg => by
    have told : KeepsHeat (k.setChan ch { c with q := c.qAfterTrip cause }) (k.setChan ch (c.afterTrip cause i vavg)) :=
      keepsHeat_setChan rfl rfl rfl
    unfold State.tripLocked
    split
    · exact told.trans (keepsHeat_of_chans rfl)
    · exact told.trans (keepsHeat_of_chans rfl)
  cases bridge : bridgeOf ch with
  | none =>
    rw [trip_pwm k ch c cause i o bridge]
    exact (locked _).trans (keepsHeat_of_learned (handed_examine _ _).learned)
  | some br =>
    rw [trip_bridge k ch c cause i o bridge]
    exact ((locked _).trans (keepsHeat_of_learned (contained_dropDrive _ true br .tripped).2.2)).trans
      (keepsHeat_of_learned (handed_examine _ _).learned)

/-- Settles O25. -/
theorem samplesUpdateTheHeat : Obligations.SamplesUpdateTheHeat := by
  unfold Obligations.SamplesUpdateTheHeat
  intro ch rms onCur s running c full seen i o q short
  have hi : s.sampleRms ch rms onCur = i := by rw [sampleRms_eq, sensed_eq]
  have ho : s.sampleOn ch onCur = o := by rw [sampleOn_eq, sensed_eq]
  set k := s.driveCurrentKept ch o with hk
  set d := c.takeSample i o with hd
  have heat : (d.q : Int) = q := heatUpdate_cast c.profile.tau i c.q
  have sample : s.senseSample ch rms onCur = (k.setChan ch d).checkSample ch i o := by
    rw [senseSample_of hi ho, keepSample_eq]
  have others : ∀ e : Channel, ∀ x, x ≠ ch → (k.setChan ch e).chan x = s.chan x := fun e x hx => by
    rw [State.chan_setChan, if_neg hx, hk, driveCurrentKept_only]
    rfl
  have own : ∀ e : Channel, (k.setChan ch e).chan ch = e := fun e => State.chan_setChan_same _ _ _
  have short_iff : short ↔ (c.st = .ramping ∨ c.st = .on) ∧ d.Short o := by
    constructor
    · rintro (⟨ramping, x, hx, reaches⟩ | ⟨on, x, hx, reaches⟩)
      · exact ⟨.inl ramping, x, hx, by rw [if_pos (show d.st = .ramping from ramping)]; exact reaches⟩
      · exact ⟨.inr on, x, hx, by rw [if_neg (by rw [show d.st = .on from on]; decide)]; exact reaches⟩
    · rintro ⟨ramping | on, x, hx, reaches⟩
      · exact .inl ⟨ramping, x, hx, by rw [if_pos (show d.st = .ramping from ramping)] at reaches; exact reaches⟩
      · exact .inr ⟨on, x, hx, by rw [if_neg (by rw [show d.st = .on from on]; decide)] at reaches; exact reaches⟩
  /- The state from which every value is read: the sample taken, Q raised by a short trip. -/
  have values : ∃ Q : Nat, KeepsHeat (k.setChan ch { d with q := Q }) (s.senseSample ch rms onCur) ∧
      (¬ short → Q = d.q) ∧ (short → Q = max d.q (c.profile.rated * c.profile.rated * 256 + 256)) := by
    by_cases admitted : c.st = .ramping ∨ c.st = .on
    · have admitted' : d.admitted = true := (Channel.admitted_iff _).mpr admitted
      cases trips : d.tripCauseOf o with
      | none =>
        refine ⟨d.q, ?_, fun _ => rfl, fun isShort => ?_⟩
        · rw [sample]
          exact keepsHeat_checkSample k ch d i o fun _ => trips
        · rw [tripCauseOf_short (short_iff.mp isShort).2] at trips
          cases trips
      | some cause =>
        have cause_of : ∀ h : d.Short o, cause = .short := fun h => by
          rw [tripCauseOf_short h] at trips
          exact (Option.some.inj trips).symm
        have thermal_of : ¬ d.Short o → cause = .thermal := fun h => by
          have first : d.tripCauseOf o = if d.thermalTrips = true then some .thermal else none :=
            if_neg fun short => h ((shortTrips_iff d o).mp short)
          rw [first] at trips
          split at trips
          · exact (Option.some.inj trips).symm
          · cases trips
        refine ⟨d.qAfterTrip cause, ?_, fun noShort => ?_, fun isShort => ?_⟩
        · rw [sample, checkSample_trips i o (by rw [own]; exact admitted') (by rw [own]; exact trips)]
          exact keepsHeat_trip k ch d cause i o
        · rw [thermal_of fun h => noShort (short_iff.mpr ⟨admitted, h⟩)]
          rfl
        · rw [cause_of (short_iff.mp isShort).2]
          rfl
    · refine ⟨d.q, ?_, fun _ => rfl, fun isShort => absurd (short_iff.mp isShort).1 admitted⟩
      rw [sample]
      exact keepsHeat_checkSample k ch d i o fun h => absurd ((Channel.admitted_iff _).mp h) admitted
  obtain ⟨Q, keeps, unraised, raised⟩ := values
  have settled : ∀ x, (State.settle s (s.senseSample ch rms onCur)).chan x = (s.senseSample ch rms onCur).chan x :=
    fun x => by unfold State.chan; rw [settle_chans]
  obtain ⟨heated, lastRms, lastOn⟩ := keeps ch
  rw [own] at heated lastRms lastOn
  refine ⟨_, exec_senseSample running rfl, ?_, ?_, fun noShort => ?_, fun isShort => ?_, fun x hx => ?_⟩
  · rw [settled]; exact lastRms
  · rw [settled]; exact lastOn
  · rw [settled, heated, ← heat]
    exact congrArg _ (unraised noShort)
  · rw [settled, heated, ← heat]
    refine (congrArg _ (raised isShort)).trans ?_
    push_cast
    rfl
  · rw [settled, (keeps x).1, others _ x hx]

end Sys2Proof.Machine
end

section
/-!
PROOF. Outputs by the states of channels and bridges (R11, R70, R89, R115, R125, R159), and the stages of a bridge
that run out (R116, R118, R121, R122, R125).
-/
namespace Sys2Proof.Machine

variable {i : Instr}

/-! ### Outputs -/

theorem conducts_pwm {s : State} {ch : Ch} (pwm : bridgeOf ch = none) : s.conducts ch = true ↔ s.powered = true ∧
    ((s.chan ch).st = .ramping ∨ (s.chan ch).st = .on) ∧
    ∃ t, (s.chan ch).periodTimer = some t ∧ t.pos < (s.chan ch).onTime := by
  unfold State.conducts Channel.inOnPart
  rw [pwm, Bool.and_eq_true, Bool.and_eq_true, Channel.admitted_iff]
  cases (s.chan ch).periodTimer <;> simp

theorem conducts_bridge {s : State} {ch : Ch} {br : Bridge} (bridge : bridgeOf ch = some br) :
    s.conducts ch = true ↔ s.powered = true ∧ (s.bridge br).st = .drive := by
  unfold State.conducts
  rw [bridge, Bool.and_eq_true, decide_eq_true_eq]

section
variable {s : State} {br : Bridge} (on : s.powered = true)
include on

theorem legs_drive (h : (s.bridge br).st = .drive) :
    s.legs br = if (s.bridge br).dir = .forward then (.high, .low) else (.low, .high) := by
  unfold State.legs
  rw [on, h]
  cases (s.bridge br).dir <;> rfl

theorem legs_brake (h : (s.bridge br).st = .brake) : s.legs br = (.low, .low) := by
  unfold State.legs
  rw [on, h]
  rfl

theorem legs_idle (h : (s.bridge br).st = .idle) : s.legs br =
    if (s.bridgeProfile br).idle = .brake ∧ (s.bridge br).rest = none then (.low, .low) else (.off, .off) := by
  have closed : s.lowSidesClosed br = true ↔ (s.bridgeProfile br).idle = .brake ∧ (s.bridge br).rest = none := by
    unfold State.lowSidesClosed
    rw [Bool.and_eq_true, Bool.and_eq_true, decide_eq_true_eq, decide_eq_true_eq, decide_eq_true_eq, and_assoc]
    exact and_iff_right h
  refine Eq.trans ?_ (if_congr closed rfl rfl)
  unfold State.legs
  rw [on, h]
  rfl

end

/-- Settles O32. -/
theorem outputsFollowTheStates : Obligations.OutputsFollowTheStates := by
  unfold Obligations.OutputsFollowTheStates
  refine ⟨fun ch s => ⟨fun pwm => ⟨conducts_pwm pwm, fun dest noRamping noOn => ?_⟩, fun br bridge => conducts_bridge bridge⟩,
    fun br s => ?_⟩
  · rw [← Bool.not_eq_true, conducts_pwm pwm, leaveTo_st]
    rintro ⟨_, runs, _⟩
    exact runs.elim noRamping noOn
  · intro r
    refine ⟨fun unpowered => ?_, fun on => ⟨fun stage dead => legs_dead dead, fun drive => legs_drive on drive,
      fun brake => legs_brake on brake, fun idle => legs_idle on idle⟩⟩
    unfold State.legs
    rw [unpowered]
    rfl

/-! ### Stages that run out -/

theorem beginDrive_eq {s : State} {br : Bridge} {cl : Client} {dir : Direction} {n : Nat} {e : Bool}
    (owner : (s.bridge br).owner = some cl) (slot : s.slot (bridgeChannel br) cl = some (.drive dir n e)) :
    State.beginDrive br s = s.setBridge br ((s.bridge br).enterDrive dir n) := by
  unfold State.beginDrive State.ownerEntry
  rw [owner]
  dsimp only
  rw [slot]

theorem enterDrive_eq (r : BridgeRecord) (dir : Direction) (n : Nat) : r.enterDrive dir n = { r with
    st := .drive, dir := dir, stageTimer := none, stall := 0, driven := 0, lastDrive := none
    driveTimer := some (if n = 0 then 10000 else n * 10), openEnded := decide (n = 0)
    redrive := false, rest := none } := by
  unfold BridgeRecord.enterDrive driveStart
  rw [Nat.mul_comm 10 n]

/-- Settles O34. -/
theorem bridgeStagesFollow : Obligations.BridgeStagesFollow := by
  unfold Obligations.BridgeStagesFollow
  refine ⟨fun br cl dir n e s running => ?_, fun br n s running => ?_⟩
  · intro r driving owner slot timer
    have begins := (beginDrive_eq owner slot).trans (congrArg (s.setBridge br) (enterDrive_eq r dir n))
    refine ⟨fun dead => ?_, fun dead redrive => ?_⟩
    · exact congrArg _ ((run_due s _ (State.beginDrive br) running ((stageDue_iff s br _).mpr ⟨dead, timer⟩)).trans
        (congrArg (State.settle s) begins))
    · have again : State.endDeadAfterBrake br s = State.beginDrive br s := if_pos redrive
      exact congrArg _ ((run_due s _ (State.endDeadAfterBrake br) running
        ((stageDue_iff s br _).mpr ⟨dead, timer⟩)).trans (congrArg (State.settle s) (again.trans begins)))
  · intro r p outcome
    refine ⟨fun dead timer => ?_, fun brake timer => ?_, fun rest late => ?_⟩
    · exact congrArg _ (run_due s _ (State.beginBrake br) running ((stageDue_iff s br _).mpr ⟨dead, timer⟩))
    · have ended : State.endBrake br s = s.setBridge br { r with
          st := .dead .afterBrake, stageTimer := some p.deadt, rest := some 0 } := by
        unfold State.endBrake
        rw [restAfterLegsOff_eq, if_pos (.inr (.inl brake))]
      exact congrArg _ ((run_due s _ (State.endBrake br) running ((stageDue_iff s br _).mpr ⟨brake, timer⟩)).trans
        (congrArg (State.settle s) ended))
    · exact congrArg _ (run_due s _ (State.expireRest br) running ((restDue_iff s br).mpr ⟨n, rest, late⟩))

end Sys2Proof.Machine
end

section
/-!
PROOF. An accepted DRIVE (R37, R39, R117, R122).
-/
namespace Sys2Proof.Machine

variable {i : Instr}

theorem State.setBridge_setBridge (s : State) (br : Bridge) (r r' : BridgeRecord) :
    (s.setBridge br r).setBridge br r' = s.setBridge br r' := by
  cases br <;> rfl

theorem directionOfCode_eq (b : Byte) : directionOfCode b = if b = 0 then .forward else .reverse := by
  have zero := byte_toNat_eq_iff b 0 (by decide)
  unfold directionOfCode
  exact if_congr zero rfl rfl

theorem feedOf_bridgeChannel (br : Bridge) : feedOf (bridgeChannel br) = .a := by cases br <;> rfl

theorem drive_accepted {s : State} {src : Source} {b way : Byte} {n : Half} {br : Bridge} (takes : s.Takes src)
    (named : NamesChannel b (bridgeChannel br)) (may : s.MayDemand src.client (bridgeChannel br))
    (free : (s.bridge br).owner = none ∨ (s.bridge br).owner = some src.client) :
    exec (.drive src b way n) s = .next (s.accepted src fun u =>
      u.acceptDrive br src.client (if way = 0 then .forward else .reverse) (min 1000 n.toNat)) := by
  have unowned : (!(s.bridge br).ownedByOther src.client) = true := by
    rw [Bool.not_eq_true', ← Bool.not_eq_true, BridgeRecord.ownedByOther_iff]
    rcases free with none_ | own
    · rw [none_]; simp
    · rw [own]; simp
  refine accepted_by (fun _ => rfl) takes ((onChannel_named named).trans ?_)
  rw [bridgeOf_bridgeChannel, heard_chan]
  dsimp only
  rw [heard_bridge]
  refine (check_pass ((allowsDemand_iff s _ _).mpr may)).trans ((check_pass unowned).trans ?_)
  rw [directionOfCode_eq]
  rfl

section
variable {s : State} {br : Bridge} {cl : Client} {dir : Direction} {n : Nat}

theorem own_bridge : (s.own br cl dir n).bridge br = { s.bridge br with owner := some cl } :=
  State.bridge_setBridge_same _ _ _

/-- A channel that holds one DRIVE entry and no other asks for full duty (R42). -/
theorem combined_own {t : State} (others : ∀ x, x ≠ cl → s.slot (bridgeChannel br) x = none)
    (demand : t.demand = (s.own br cl dir n).demand) (groups : t.groups = s.groups) :
    t.combined (bridgeChannel br) = ⟨false, true, 1000⟩ := by
  have slot : ∀ x, (s.own br cl dir n).slot (bridgeChannel br) x =
      if x = cl then some (.drive dir n false) else s.slot (bridgeChannel br) x := fun x => by
    refine (State.slot_setSlot s _ _ cl x _).trans ?_
    simp only [true_and]
  refine (combined_congr (s := s.own br cl dir n) demand groups _).trans (combined_of_drive ?_ ⟨cl, ?_⟩)
  · intro x e held
    rw [slot] at held
    split at held
    · cases held; rfl
    next other => rw [others x other] at held; cases held
  · rw [slot, if_pos rfl]
    simp

end

/-! ### What the sequencer does by its stage (R122) -/

section
variable {t : State} {br : Bridge} {dir : Direction} {n : Nat}

theorem driveTaken_early (h : (t.bridge br).st = .idle ∨ (t.bridge br).st = .dead .beforeDrive) :
    t.driveTaken br dir n = t := by
  unfold State.driveTaken
  dsimp only
  rcases h with h | h <;> rw [h]

theorem driveTaken_prolongs (h : (t.bridge br).st = .drive) (same : dir = (t.bridge br).dir) :
    t.driveTaken br dir n = t.setBridge br { t.bridge br with
      driveTimer := some (if n = 0 then 10000 else 10 * n), openEnded := decide (n = 0) } := by
  have start : driveStart n = if n = 0 then 10000 else 10 * n := rfl
  unfold State.driveTaken
  dsimp only
  split
  next idle => rw [h] at idle; cases idle
  next dead => rw [h] at dead; cases dead
  · exact (if_pos same).trans (by rw [start])
  next _ _ drive => exact absurd h drive

theorem driveTaken_reverses (h : (t.bridge br).st = .drive) (other : dir ≠ (t.bridge br).dir) :
    t.driveTaken br dir n = t.setBridge br { t.bridge br with
      st := .dead .beforeBrake, stageTimer := some (t.bridgeProfile br).deadt
      driveTimer := none, redrive := true, rest := some 0 } := by
  have rest : t.restAfterLegsOff br = some 0 := by
    rw [restAfterLegsOff_eq]
    exact if_pos (.inl h)
  unfold State.driveTaken
  dsimp only
  split
  next idle => rw [h] at idle; cases idle
  next dead => rw [h] at dead; cases dead
  · exact (if_neg other).trans (by rw [rest])
  next _ _ drive => exact absurd h drive

theorem driveTaken_waits
    (h : (t.bridge br).st = .dead .beforeBrake ∨ (t.bridge br).st = .brake ∨ (t.bridge br).st = .dead .afterBrake) :
    t.driveTaken br dir n = t.setBridge br { t.bridge br with redrive := true, ending := none } := by
  unfold State.driveTaken
  dsimp only
  rcases h with h | h | h <;> rw [h]

end

/-- Settles O33. -/
theorem drivesBegin : Obligations.DrivesBegin := by
  unfold Obligations.DrivesBegin
  refine ⟨fun src b way n br s => ?_, fun src b way n br s => ?_⟩
  · intro ch r dir dur timer takes named may free wish inhibited pending others outcome
    have record : (s.heard src).bridge br = r := heard_bridge s src br
    have accepts := drive_accepted (way := way) (n := n) takes named may free
    have empty : ∀ x, x ≠ src.client → (s.heard src).slot ch x = none := fun x hx => by rw [heard_slot, others x hx]
    have profile : ((s.heard src).own br src.client dir dur).bridgeProfile br = s.bridgeProfile br :=
      congrArg (fun c : Channel => c.profile.bridgeFields) (heard_chan s src _)
    have entered : ((s.heard src).own br src.client dir dur).bridge br = { r with owner := some src.client } := by
      rw [own_bridge, record]
    /- The hand-over finds the three values as they were; only the sequencer's record moves. -/
    have reaches : ∀ r' : BridgeRecord, ((s.heard src).own br src.client dir dur).driveTaken br dir dur =
        ((s.heard src).own br src.client dir dur).setBridge br { r' with owner := some src.client } → outcome r' :=
      fun r' taken => by
        refine accepts.trans (congrArg _ (accepted_congr ?_))
        refine (congrArg (fun t : State => t.recompute true ch) taken).trans ?_
        set w := ((s.heard src).own br src.client dir dur).setBridge br { r' with owner := some src.client } with hw
        have full : w.combined ch = ⟨false, true, 1000⟩ := combined_own empty rfl rfl
        have chan : w.chan ch = s.chan ch := heard_chan s src ch
        rw [recompute_of_same true (by rw [full, chan, pending]) (by rw [full, chan, inhibited])
          (by rw [full, chan, wish]), hw]
        exact State.setBridge_setBridge _ _ _ _
    refine ⟨fun early => reaches r ?_, fun drive same => reaches _ ?_, fun drive other => reaches _ ?_,
      fun late => reaches _ ?_⟩
    · rw [driveTaken_early (by rw [entered]; exact early), ← entered]
      cases br <;> rfl
    · rw [driveTaken_prolongs (by rw [entered]; exact drive) (by rw [entered]; exact same), entered]
    · rw [driveTaken_reverses (by rw [entered]; exact drive) (by rw [entered]; exact other), entered, profile]
    · rw [driveTaken_waits (by rw [entered]; exact late), entered]
  · intro ch r dir fs cls takes named may unowned idle noWish slots told outcome
    have record : (s.heard src).bridge br = r := heard_bridge s src br
    have accepts := drive_accepted (way := way) (n := n) takes named may (.inl unowned)
    set w := (s.heard src).own br src.client dir (min 1000 n.toNat) with hw
    have entered : w.bridge br = { r with owner := some src.client } := by rw [hw, own_bridge, record]
    have stays : w.driveTaken br dir (min 1000 n.toNat) = w := driveTaken_early (.inl (by rw [entered]; exact idle))
    have full : w.combined ch = ⟨false, true, 1000⟩ :=
      combined_own (fun x _ => by rw [heard_slot, slots]) rfl rfl
    have chan : w.chan ch = s.chan ch := heard_chan s src ch
    have feed : feedOf ch = .a := feedOf_bridgeChannel br
    have monitor : (w.monitor (feedOf ch)).st = fs := by
      rw [feed]
      exact congrArg Monitor.st (heard_monitor s src .a)
    have wants : (w.combined ch).wants = true := by rw [full]
    have wish : (w.chan ch).wish = false := by rw [chan, noWish]
    have reaches : ∀ f : State → State, w.recompute true ch = f (s.heard src) → outcome f := fun f h => by
      refine accepts.trans (congrArg _ (accepted_congr ?_))
      exact (congrArg (fun t : State => t.recompute true ch) stays).trans h
    have told_eq : (s.chan ch).st ≠ .ramping → (s.chan ch).st ≠ .on → w.told ch = told (s.heard src) := fun noRamping noOn => by
      unfold State.told
      rw [Channel.record_eq, full, chan, if_neg fun h => h.2.elim noRamping noOn]
      dsimp only [told]
      rw [heard_chan, hw, State.own, record]
    refine ⟨fun locked => reaches _ ?_, fun off => ⟨fun suspends => reaches _ ?_, fun cut bypass => reaches _ ?_,
      fun cut surge ranked => reaches _ ?_⟩⟩
    · have out : (s.chan ch).st ≠ .ramping ∧ (s.chan ch).st ≠ .on ∧ (s.chan ch).st ≠ .off := by
        rcases locked with h | h <;> rw [h] <;> decide
      rw [recompute_begins true wish wants, wishBegins_still (by rw [chan_told, Channel.record_st, chan]; exact out.2.2),
        told_eq out.1 out.2.1]
    all_goals
      have told_off := told_eq (by rw [off]; decide) (by rw [off]; decide)
      have off' : (w.chan ch).st = .off := by rw [chan, off]
    · rw [recompute_suspends true wish wants off' (by rw [monitor, chan]; exact suspends), told_off]
    · rw [recompute_bypasses true wish wants off' (by rw [monitor]; exact cut) (by rw [chan]; exact bypass), told_off]
    · rw [recompute_queues true wish wants off' (by rw [monitor]; exact cut) (by rw [monitor, chan]; exact surge)
        (by rw [chan]; exact Nat.one_le_iff_ne_zero.mp ranked), told_off, feed]
      refine congrArg (fun t : State => t.examine .a) ?_
      have profile : ((told (s.heard src)).chan ch).profile.cls = cls := by
        rw [State.chan_setChan_same, heard_chan]
      unfold State.place
      rw [profile, feed]

end Sys2Proof.Machine
end

section
/-!
PROOF. Feed samples (R129 to R131, R137, R138): what is measured, and when nothing else moves.
-/
namespace Sys2Proof.Machine

variable {i : Instr}

theorem State.setMonitor_setMonitor (s : State) (f : Feed) (m m' : Monitor) :
    (s.setMonitor f m).setMonitor f m' = s.setMonitor f m' := by
  cases f <;> rfl

theorem pushVoltage_eq (w : List Nat) (v : Nat) :
    pushVoltage w v = if w.length = 16 then w.tail ++ [v] else w ++ [v] := by
  have full : (w ++ [v]).length = 17 ↔ w.length = 16 := by simp
  unfold pushVoltage
  refine if_ctx_congr full (fun h => ?_) fun _ => rfl
  exact List.tail_append_of_ne_nil fun empty => by rw [empty] at h; cases h

theorem windowMean_eq (w : List Nat) : windowMean w = w.sum / w.length := by
  rw [windowMean, List.sum_eq_foldl]

/-! ### The sample by its outcome (R129 step 5) -/

section
variable {s : State} {f : Feed} {v c : Nat}

theorem feedSample_calm (h : (s.takeFeedSample f v c).feedChangeDue f = none) :
    s.feedSample f v c = ((s.takeFeedSample f v c).overloadCheck f).advanceRestore f := by
  unfold State.feedSample
  dsimp only
  rw [h]

theorem feedSample_changes {new : FeedState} (h : (s.takeFeedSample f v c).feedChangeDue f = some new) :
    s.feedSample f v c = (s.takeFeedSample f v c).changeFeed f new := by
  unfold State.feedSample
  dsimp only
  rw [h]

theorem exec_feedSample (running : s.Running) {t : State} (h : s.feedSample f v c = t) :
    exec (.feedSample f v c) s = .next (State.settle s t) := by
  subst h
  exact congrArg _ (run_active s (fun t => t.feedSample f v c) running)

end

/-! ### Overload (R137) -/

section
variable {s : State} {f : Feed}

theorem overloadCheck_below (h : (s.monitor f).counters.overload ≠ 1000) : s.overloadCheck f = s := if_neg h

theorem overloadCheck_full (h : (s.monitor f).counters.overload = 1000) : s.overloadCheck f =
    (s.shedOne f .overload).setMonitor f { (s.shedOne f .overload).monitor f with
      counters := { ((s.shedOne f .overload).monitor f).counters with overload := 0 } } := if_pos h

/-! ### The restore timer (R138) -/

theorem advanceRestore_rests (h : (s.monitor f).st ≠ .normal ∨ ∀ n, (s.monitor f).restoreTimer = some n → 2000 ≤ n) :
    s.advanceRestore f = s := by
  unfold State.advanceRestore
  dsimp only
  split
  · rfl
  next n timer => exact if_pos (h.imp_right fun late => late n timer)

variable {n : Nat} (normal : (s.monitor f).st = .normal) (timer : (s.monitor f).restoreTimer = some n) (runs : n < 2000)
include normal timer runs

theorem advanceRestore_above (h : (s.unit f).cont < (s.monitor f).current) :
    s.advanceRestore f = s.setMonitor f { s.monitor f with restoreTimer := some 0 } := by
  unfold State.advanceRestore
  dsimp only
  rw [timer]
  exact (if_neg (not_or.mpr ⟨not_not.mpr normal, Nat.not_le.mpr runs⟩)).trans (if_pos h)

theorem advanceRestore_within (h : (s.monitor f).current ≤ (s.unit f).cont) : s.advanceRestore f =
    if n + 1 = 2000 then s.restoreShed f else s.setMonitor f { s.monitor f with restoreTimer := some (n + 1) } := by
  unfold State.advanceRestore
  dsimp only
  rw [timer]
  exact (if_neg (not_or.mpr ⟨not_not.mpr normal, Nat.not_le.mpr runs⟩)).trans (if_neg (Nat.not_lt.mpr h))

end

/-- Settles O42. -/
theorem feedSamplesMeasure : Obligations.FeedSamplesMeasure := by
  unfold Obligations.FeedSamplesMeasure
  intro f voltage current s running m v i w c sampled u change
  have taken : s.takeFeedSample f voltage current = u := by
    refine congrArg (s.setMonitor f) ?_
    have window : pushVoltage m.window v = w := pushVoltage_eq m.window v
    unfold Monitor.takeSample
    dsimp only [deliveredVoltage, deliveredCurrent]
    rw [window, windowMean_eq]
  have monitor : u.monitor f = sampled := State.monitor_setMonitor_same _ _ _
  have due : u.feedChangeDue f = change := by
    unfold State.feedChangeDue
    rw [monitor]
    change nextFeedState m.st c = change
    unfold change nextFeedState
    cases m.st <;> rfl
  have unit : u.unit f = s.unit f := rfl
  have samples : change = none → c.overload ≠ 1000 → ∀ t, u.advanceRestore f = t →
      exec (.feedSample f voltage current) s = .next (State.settle s t) := fun calm below t h => by
    refine exec_feedSample running ((feedSample_calm (by rw [taken, due, calm])).trans ?_)
    rw [taken, overloadCheck_below (by rw [monitor]; exact below), h]
  refine ⟨taken, due, fun calm below => ⟨fun rests => ?_, fun normal n timer runs noRestore => ?_⟩⟩
  · refine samples calm below _ (advanceRestore_rests ?_)
    rw [monitor]
    rcases rests with other | stopped | stands
    · exact .inl other
    · exact .inr fun n timer => by cases stopped.symm.trans timer
    · exact .inr fun n timer => by cases stands.symm.trans timer; exact Nat.le_refl 2000
  · refine samples calm below _ ?_
    have normal' : (u.monitor f).st = .normal := by rw [monitor]; exact normal
    have timer' : (u.monitor f).restoreTimer = some n := by rw [monitor]; exact timer
    by_cases within : i ≤ (s.unit f).cont
    · rw [advanceRestore_within normal' timer' runs (by rw [monitor, unit]; exact within),
        if_neg fun h => noRestore within (Nat.succ.inj h), if_pos within, monitor]
    · rw [advanceRestore_above normal' timer' runs (by rw [monitor, unit]; exact Nat.not_le.mp within),
        if_neg within, monitor]

/-! ### The victim and the shed (R136) -/

theorem latestOf_eq_none {s : State} {l : List Ch} : latestOf s l = none ↔ l = [] := by
  cases l with
  | nil => simp [latestOf]
  | cons ch rest =>
    unfold latestOf
    simp only [reduceCtorEq, iff_false]
    split
    · exact Option.some_ne_none ch
    next x _ => split <;> exact Option.some_ne_none _

theorem latestOf_latest {s : State} {l : List Ch} {ch : Ch} (h : latestOf s l = some ch) :
    ∀ x ∈ l, (s.chan x).stampNumber ≤ (s.chan ch).stampNumber := by
  induction l generalizing ch with
  | nil => simp
  | cons y rest ih =>
    unfold latestOf at h
    intro x mem
    split at h
    next empty =>
      cases h
      rw [latestOf_eq_none.mp empty, List.mem_singleton] at mem
      rw [mem]
    next z latest =>
      split at h
      next later =>
        cases h
        rcases List.mem_cons.mp mem with rfl | mem
        · exact Nat.le_of_lt later
        · exact ih latest x mem
      next noLater =>
        cases h
        rcases List.mem_cons.mp mem with rfl | mem
        · exact Nat.le_refl _
        · exact (ih latest x mem).trans (Nat.not_lt.mp noLater)

theorem mem_candidates {s : State} {f : Feed} {cls : Nat} {ch : Ch} : ch ∈ s.candidates f cls ↔
    feedOf ch = f ∧ ((s.chan ch).st = .ramping ∨ (s.chan ch).st = .on) ∧ (s.chan ch).profile.cls = cls := by
  rw [State.candidates, List.mem_filter, mem_admittedOf, decide_eq_true_eq, and_assoc]

theorem candidates_eq_nil {s : State} {f : Feed} {cls : Nat} : s.candidates f cls = [] ↔ ∀ ch,
    ¬ (feedOf ch = f ∧ ((s.chan ch).st = .ramping ∨ (s.chan ch).st = .on) ∧ (s.chan ch).profile.cls = cls) := by
  rw [List.eq_nil_iff_forall_not_mem]
  exact forall_congr' fun ch => not_congr mem_candidates

theorem victim_eq_none {s : State} {f : Feed} :
    s.victim f = none ↔ s.candidates f 3 = [] ∧ s.candidates f 2 = [] := by
  unfold State.victim
  split
  next ch latest =>
    refine iff_of_false (Option.some_ne_none ch) fun empty => ?_
    rw [latestOf_eq_none.mpr empty.1] at latest
    cases latest
  next none_ => rw [latestOf_eq_none, latestOf_eq_none.mp none_, eq_self_iff_true, true_and]

theorem victim_latest {s : State} {f : Feed} {ch : Ch} (h : s.victim f = some ch) :
    latestOf s (s.candidates f 3) = some ch ∨
      (s.candidates f 3 = [] ∧ latestOf s (s.candidates f 2) = some ch) := by
  unfold State.victim at h
  split at h
  next latest => exact .inl (latest.trans h)
  next none_ => exact .inr ⟨latestOf_eq_none.mp none_, h⟩

theorem shedOne_none {s : State} {f : Feed} (h : s.victim f = none) (cause : ShedCause) : s.shedOne f cause = s := by
  unfold State.shedOne
  rw [h]

theorem shedOne_victim {s : State} {f : Feed} {ch : Ch} (h : s.victim f = some ch) (cause : ShedCause) :
    s.shedOne f cause = s.shedChannel f cause ch := by
  unfold State.shedOne
  rw [h]

theorem placeOf_eq (s : State) (f : Feed) (ch : Ch) : s.placeOf f ch =
    1 + allChannels.countP fun x => feedOf x = f && (s.chan x).admitted &&
      decide ((s.chan ch).stampNumber < (s.chan x).stampNumber) := by
  unfold State.placeOf State.admittedOf channelsOf
  rw [List.filter_filter, List.filter_filter, ← List.countP_eq_length_filter]
  congr 1
  refine List.countP_congr fun x _ => ?_
  simp only [Bool.and_eq_true, decide_eq_true_eq]
  tauto

theorem leaveTo_admitted {s : State} {ch : Ch} (runs : (s.chan ch).st = .ramping ∨ (s.chan ch).st = .on)
    (dest : ChState) : s.leaveTo ch dest = (s.releaseClaims ch).setChan ch ((s.chan ch).leaveAdmitted dest) := by
  unfold State.leaveTo
  dsimp only
  rcases runs with h | h <;> rw [h]

/-- Claims released as an admitted channel leaves (R53). -/
theorem releaseClaims_admitted {s : State} {ch : Ch} (runs : (s.chan ch).st = .ramping ∨ (s.chan ch).st = .on) :
    s.releaseClaims ch = s.setUnit (feedOf ch) { s.unit (feedOf ch) with
      sumS := (s.unit (feedOf ch)).sumS -
        (if (s.chan ch).st = .ramping then (s.chan ch).profile.iclaim else (s.chan ch).profile.rclaim)
      sumR := (s.unit (feedOf ch)).sumR - (s.chan ch).profile.rclaim } := by
  rw [← presentClaim_admitted runs]
  rfl

/-- Settles O45. -/
theorem shedsTakeOneVictim : Obligations.ShedsTakeOneVictim := by
  unfold Obligations.ShedsTakeOneVictim
  refine ⟨fun f s => ?_, fun f cause n s => ?_⟩
  · intro candidate
    refine ⟨?_, fun ch victim => ?_⟩
    · rw [victim_eq_none, candidates_eq_nil, candidates_eq_nil, ← forall_and]
    · rcases victim_latest victim with latest | ⟨empty, latest⟩
      · exact .inl ⟨mem_candidates.mp (latestOf_mem latest),
          fun x hx => latestOf_latest latest x (mem_candidates.mpr hx)⟩
      · exact .inr ⟨candidates_eq_nil.mp empty, mem_candidates.mp (latestOf_mem latest),
          fun x hx => latestOf_latest latest x (mem_candidates.mpr hx)⟩
  · intro m
    refine ⟨fun running low timer late => ?_, rfl, fun none_ => shedOne_none none_ cause, fun ch victim => ?_⟩
    · exact congrArg _ (run_due s _ (State.shedStep f) running ((shedStepDue_iff s f).mpr ⟨low, n, timer, late⟩))
    intro c u place told
    obtain ⟨feed, admitted⟩ := victim_admitted victim
    have runs := (Channel.admitted_iff _).mp admitted
    have offered : (s.zeroRestore f).offerEvent
        (.shed ch f cause c.profile.cls (s.placeOf f ch) m.vavg m.current) = told := by
      rw [placeOf_eq]
      rfl
    refine ⟨fun pwm => ?_, fun br bridge => ?_⟩
    all_goals
      rw [shedOne_victim victim]
      unfold State.shedChannel
      dsimp only
      rw [offered]
    · rw [pwm]
      refine congrArg (fun t : State => t.examine f) ?_
      refine (leaveTo_admitted (s := told) (ch := ch) runs .shed).trans ?_
      rw [releaseClaims_admitted (s := told) (ch := ch) runs, feed]
      rfl
    · rw [bridge]

end Sys2Proof.Machine
end

section
/-!
PROOF. Overload, restore and the changes of a feed's state (R131, R136 to R138).
-/
namespace Sys2Proof.Machine

variable {i : Instr}

/-! ### What a shed leaves alone (R136) -/

theorem contained_shedChannel (s : State) (f : Feed) (cause : ShedCause) (ch : Ch) :
    (s.zeroRestore f).Contained (s.shedChannel f cause ch) := by
  unfold State.shedChannel
  dsimp only
  refine State.Contained.trans ?_ (contained_examine _ f)
  refine (contained_offerEvent (s.zeroRestore f) (.shed ch f cause (s.chan ch).profile.cls (s.placeOf f ch)
    (s.monitor f).vavg (s.monitor f).current)).trans ?_
  split
  · exact contained_dropDrive _ _ _ _
  · exact contained_leaveTo _ _ _

/-- A shed leaves the feed's monitor but for its restore timer. -/
theorem monitor_shedOne (s : State) (f : Feed) (cause : ShedCause) : (s.shedOne f cause).monitor f =
    { s.monitor f with restoreTimer := ((s.shedOne f cause).monitor f).restoreTimer } := by
  cases victim : s.victim f with
  | none => rw [shedOne_none victim]
  | some ch =>
    have monitor : (s.shedOne f cause).monitor f = (s.zeroRestore f).monitor f := by
      rw [shedOne_victim victim]
      unfold State.monitor
      rw [(contained_shedChannel s f cause ch).mon]
    have zeroed : (s.zeroRestore f).monitor f =
        { s.monitor f with restoreTimer := (s.monitor f).restoreTimer.map fun _ => 0 } :=
      State.monitor_setMonitor_same _ _ _
    rw [monitor, zeroed]

theorem cont_shedOne (s : State) (f : Feed) (cause : ShedCause) : ((s.shedOne f cause).unit f).cont = (s.unit f).cont := by
  cases victim : s.victim f with
  | none => rw [shedOne_none victim]
  | some ch =>
    obtain ⟨_, units, _⟩ := contained_shedChannel s f cause ch
    rw [shedOne_victim victim, units f]
    rfl

/-! ### Overload and restore (R137, R138) -/

/-- The restore timer behind a sample above CONT (R138). -/
theorem advanceRestore_overloaded {s : State} {f : Feed} (h : (s.unit f).cont < (s.monitor f).current) :
    s.advanceRestore f = s.setMonitor f { s.monitor f with
      restoreTimer := (s.monitor f).restoreTimer.map fun n =>
        if (s.monitor f).st = .normal ∧ n < 2000 then 0 else n } := by
  have still : ∀ o, (s.monitor f).restoreTimer = o → s.setMonitor f { s.monitor f with restoreTimer := o } = s := by
    rintro o rfl
    cases f <;> rfl
  by_cases normal : (s.monitor f).st = .normal
  · cases timer : (s.monitor f).restoreTimer with
    | none =>
      rw [advanceRestore_rests (.inr fun n h => by rw [timer] at h; cases h)]
      exact (still none timer).symm
    | some n =>
      by_cases runs : n < 2000
      · rw [advanceRestore_above normal timer runs h, Option.map_some, if_pos ⟨normal, runs⟩]
      · rw [advanceRestore_rests (.inr fun k h => by rw [timer] at h; cases h; exact Nat.not_lt.mp runs),
          Option.map_some, if_neg fun c => runs c.2]
        exact (still _ timer).symm
  · rw [advanceRestore_rests (.inl normal)]
    refine (still _ ?_).symm
    cases (s.monitor f).restoreTimer with
    | none => rfl
    | some n => rw [Option.map_some, if_neg fun c => normal c.1]

theorem restoreShed_none {s : State} {f : Feed} (h : s.shedChannels f = []) :
    s.restoreShed f = s.setMonitor f { s.monitor f with restoreTimer := some 2000 } := if_pos h

theorem restoreShed_some {s : State} {f : Feed} (h : s.shedChannels f ≠ []) : s.restoreShed f =
    ((s.placeBatch f (s.shedChannels f)).offerEvent (.restore f (s.shedChannels f).length
      ((s.shedChannels f).countP fun ch => ((s.placeBatch f (s.shedChannels f)).chan ch).admitted))).setMonitor f
        { s.monitor f with restoreTimer := some 0 } := by
  have monitor : (s.placeBatch f (s.shedChannels f)).monitor f = s.monitor f := by
    unfold State.monitor
    rw [(only_placeBatch s f _).toDemand.mon]
  unfold State.restoreShed State.admittedIn
  refine (if_neg h).trans ?_
  dsimp only
  rw [← List.countP_eq_length_filter, ← monitor]
  rfl

/-- A row inside a larger step acts as that step (log 4). -/
theorem run_asStep {s : State} {due : State → Bool} (running : s.Running) (h : due s = true) (f : State → State) :
    s.run (whenActive (whenDue due f)) = s.run (whenActive f) :=
  (run_due s due f running h).trans (run_active s f running).symm

/-- Settles O46. -/
theorem overloadShedsAndRestoreReturns : Obligations.OverloadShedsAndRestoreReturns := by
  unfold Obligations.OverloadShedsAndRestoreReturns
  intro f voltage current s running u m calm
  have unit : u.unit f = s.unit f := rfl
  have sampled : s.feedSample f voltage current = (u.overloadCheck f).advanceRestore f := feedSample_calm calm
  refine ⟨fun full above => ?_, fun normal timer within below => ?_⟩
  · intro w
    have kept : w.monitor f = { m with restoreTimer := (w.monitor f).restoreTimer } := monitor_shedOne u f .overload
    have counters : (w.monitor f).counters = m.counters := by rw [kept]
    have st : (w.monitor f).st = m.st := by rw [kept]
    have shown : (w.monitor f).current = m.current := by rw [kept]
    refine ⟨exec_feedSample running ?_, ?_⟩
    · have monitor := State.monitor_setMonitor_same w f
        { w.monitor f with counters := { (w.monitor f).counters with overload := 0 } }
      rw [sampled, overloadCheck_full full, advanceRestore_overloaded, State.setMonitor_setMonitor, monitor, st, counters]
      rw [monitor]
      change (w.unit f).cont < (w.monitor f).current
      rw [shown, cont_shedOne, unit]
      exact above
    · have due : s.sampleOverloads f voltage current = true := by
        unfold State.sampleOverloads
        dsimp only
        rw [calm, decide_eq_true full]
        rfl
      exact congrArg _ (run_asStep (due := fun t => t.sampleOverloads f voltage current) running due _)
  · intro shed
    have due : s.sampleRestores f voltage current = true := by
      have current : m.current = deliveredCurrent current :=
        congrArg Monitor.current (State.monitor_setMonitor_same s f _)
      unfold State.sampleRestores
      dsimp only
      rw [calm, decide_eq_true normal, decide_eq_true timer, ← current, unit, decide_eq_true within]
      rfl
    have same : exec (.restore f voltage current) s = exec (.feedSample f voltage current) s :=
      congrArg _ (run_asStep (due := fun t => t.sampleRestores f voltage current) running due _)
    have restores : s.feedSample f voltage current = u.restoreShed f := by
      rw [sampled, overloadCheck_below below,
        advanceRestore_within normal timer (by decide) (by rw [unit]; exact within), if_pos rfl]
    have shed_eq : u.shedChannels f = shed := rfl
    refine ⟨same, fun none_ => ?_, fun some_ => ?_⟩
    · exact same.trans (exec_feedSample running (restores.trans (restoreShed_none none_)))
    · exact same.trans (exec_feedSample running (restores.trans (restoreShed_some some_)))

/-! ### A change of the feed's state (R131) -/

theorem typeOf_bridge_iff (ch : Ch) : typeOf ch ≠ .bridge ↔ bridgeOf ch = none := by
  revert ch
  decide

/-- The lamps, heaters and fans of a feed on which a change acts, counted among all channels. -/
theorem length_pwm_picked {f : Feed} {acts counts : Ch → Bool}
    (pwm : ∀ ch, bridgeOf ch = none → (decide (feedOf ch = f) && acts ch) = counts ch)
    (bridge : ∀ ch, bridgeOf ch ≠ none → counts ch = false) :
    (((channelsOf f).filter acts).filter fun ch => typeOf ch ≠ .bridge).length = allChannels.countP counts := by
  unfold channelsOf
  rw [List.filter_filter, List.filter_filter, ← List.countP_eq_length_filter]
  refine List.countP_congr fun ch _ => ?_
  by_cases isPwm : bridgeOf ch = none
  · rw [← pwm ch isPwm, decide_eq_true ((typeOf_bridge_iff ch).mpr isPwm), Bool.true_and, Bool.and_comm]
  · rw [bridge ch isPwm, decide_eq_false fun h => isPwm ((typeOf_bridge_iff ch).mp h)]
    simp

theorem latestOf_congr {s t : State} (h : ∀ x, t.chan x = s.chan x) (l : List Ch) : latestOf t l = latestOf s l := by
  induction l with
  | nil => rfl
  | cons ch rest ih =>
    unfold latestOf
    rw [ih]
    simp only [h]

theorem victim_congr {s t : State} (h : ∀ x, t.chan x = s.chan x) (f : Feed) : t.victim f = s.victim f := by
  have candidates : ∀ cls, t.candidates f cls = s.candidates f cls := fun cls => by
    unfold State.candidates State.admittedOf
    simp only [h]
  unfold State.victim
  rw [candidates, candidates, latestOf_congr h, latestOf_congr h]

/-- Settles O43. -/
theorem feedStateChangesAct : Obligations.FeedStateChangesAct := by
  unfold Obligations.FeedStateChangesAct
  intro f voltage current new s running u m change entered moved resumed number told
  have entered_eq : u.setMonitor f (m.enter new) = entered := rfl
  have chan : ∀ x, entered.chan x = s.chan x := fun _ => rfl
  have counted_eq : entered.changeNumber f new = number := by
    cases new with
    | cut =>
      refine length_pwm_picked (fun ch pwm => ?_) fun ch bridge => by simp [moved, resumed, bridge]
      dsimp only [moved, resumed]
      rw [chan]
      cases (s.chan ch).st <;> simp [cutActs, pwm, (typeOf_bridge_iff ch).mpr pwm]
    | surge =>
      refine length_pwm_picked (fun ch pwm => ?_) fun ch bridge => by simp [moved, resumed, bridge]
      dsimp only [moved, resumed]
      rw [chan]
      cases (s.chan ch).st <;> simp [surgeActs, pwm]
    | low =>
      have victim : entered.victim f = s.victim f := victim_congr chan f
      exact congrArg (fun o : Option Ch => if o.isSome then 1 else 0) victim
    | normal =>
      refine (congrArg List.length (List.filter_filter ..)).trans (List.countP_eq_length_filter.symm.trans
        (congrArg (fun p => allChannels.countP p) (funext fun ch => ?_)))
      dsimp only [moved, resumed]
      rw [chan]
      cases (s.chan ch).st <;> simp
  have changes : s.feedSample f voltage current = (told.actOnChange f new).examine f := by
    rw [feedSample_changes change]
    unfold State.changeFeed
    dsimp only
    rw [entered_eq, counted_eq]
  have due : s.sampleChangesFeed f voltage current = true := congrArg Option.isSome change
  exact ⟨exec_feedSample running changes, congrArg _ (run_asStep
    (due := fun t => t.sampleChangesFeed f voltage current) running due _)⟩

end Sys2Proof.Machine
end

section
/-!
PROOF. A drive that is over: entry and owner gone, the channel's demand handed over (R117, R121, R123, R124).
-/
namespace Sys2Proof.Machine

variable {i : Instr}

/-! ### A bridge whose channel goes off -/

/-- An examination starts no bridge that does not wait in the queue. -/
theorem bridge_examine {s : State} {f : Feed} {br : Bridge} (fresh : ∀ e ∈ (s.unit f).queue, e.ch ≠ bridgeChannel br) :
    (s.examine f).bridge br = s.bridge br := by
  induction n : (s.unit f).queue.length generalizing s with
  | zero => rw [examine_of_empty (List.length_eq_zero_iff.mp n)]
  | succ m ih =>
    obtain ⟨e, rest, queue⟩ := List.exists_cons_of_length_eq_add_one n
    have first : (s.unit f).queue.head? = some e := by rw [queue]; rfl
    cases judged : s.fits f e with
    | false => rw [examine_of_blocked first judged]
    | true =>
      have left : ((s.admitHead f e).unit f).queue = rest := by rw [queue_admitHead, queue]; rfl
      have shorter : ((s.admitHead f e).unit f).queue.length = m := by
        rw [left]
        rw [queue, List.length_cons] at n
        exact Nat.succ.inj n
      rw [examine_of_fitting first judged,
        ih (fun x hx => fresh x (by rw [queue]; exact List.mem_cons_of_mem e (left ▸ hx))) shorter]
      exact bridge_admitChannel_other (fresh e (by rw [queue]; exact List.mem_cons_self))

theorem Channel.wishEnded_leaves {c : Channel} (off : c.st ≠ .off) (tripped : c.st ≠ .tripped) (locked : c.st ≠ .locked) :
    c.wishEnded = c.wentOff := by
  unfold Channel.wishEnded
  split
  next h => exact absurd h off
  next h => exact absurd h tripped
  next h => exact absurd h locked
  next => rfl

theorem Channel.wishEnded_st_off {c : Channel} (tripped : c.st ≠ .tripped) (locked : c.st ≠ .locked) :
    c.wishEnded.st = .off := by
  by_cases off : c.st = .off
  · unfold Channel.wishEnded
    rw [off]
    exact off
  · rw [Channel.wishEnded_leaves off tripped locked, Channel.wentOff_st]

theorem Channel.wishEnded_still {c : Channel} (h : c.st = .tripped ∨ c.st = .locked) : c.wishEnded = c := by
  unfold Channel.wishEnded
  rcases h with h | h <;> rw [h]

theorem bridge_wishEnds {s : State} {br : Bridge} (examined : Bool) (kept : s.QueueWaits (feedOf (bridgeChannel br))) :
    (s.wishEnds examined (bridgeChannel br)).bridge br = s.bridge br := by
  have left : (s.leaveTo (bridgeChannel br) .off).bridge br = s.bridge br := bridge_leaveTo s _ .off br
  unfold State.wishEnds
  dsimp only
  split
  · rfl
  · rfl
  · rfl
  next off tripped locked =>
    split
    · obtain ⟨_, _, fresh⟩ := wishEndedTo_leaveTo kept (Channel.wishEnded_leaves off tripped locked)
      rw [bridge_examine fresh, left]
    · exact left

/-! ### The owner's entry goes (R117) -/

theorem removeDrive_owned {s : State} {br : Bridge} {cl : Client} (owner : (s.bridge br).owner = some cl)
    (examined : Bool) : s.removeDrive examined br = (s.disown br cl).recompute examined (bridgeChannel br) := by
  unfold State.removeDrive
  dsimp only
  rw [owner]
  rfl

theorem slot_disown (s : State) (br : Bridge) (cl y : Client) (x : Ch) : (s.disown br cl).slot x y =
    if x = bridgeChannel br ∧ y = cl then none else s.slot x y := State.slot_setSlot s _ _ _ _ none

theorem bridge_disown (s : State) (br : Bridge) (cl : Client) :
    (s.disown br cl).bridge br = { s.bridge br with owner := none } := State.bridge_setBridge_same _ _ _

/-- At most bridges, ports and a client's entry on a bridge channel differ. -/
def DriveOnly (br : Bridge) (cl : Client) (s t : State) : Prop :=
  t = { s with bridges := t.bridges, demand := t.demand, ports := t.ports } ∧
    ∀ x y, ¬ (x = bridgeChannel br ∧ y = cl) → t.slot x y = s.slot x y

section
variable {s t : State} {br : Bridge} {cl : Client} (examined : Bool)

theorem DriveOnly.chan (h : DriveOnly br cl s t) (x : Ch) : t.chan x = s.chan x := by
  unfold State.chan
  rw [h.1]

theorem DriveOnly.groups (h : DriveOnly br cl s t) : t.groups = s.groups := by rw [h.1]

theorem DriveOnly.contained (h : DriveOnly br cl s t) : s.Contained t := contained_of_blocks h.1

theorem contained_disown (s : State) (br : Bridge) (cl : Client) : s.Contained (s.disown br cl) :=
  (contained_setSlot s _ _ _).trans (contained_setBridge _ br _)

/-- The table, the demands and what lies beyond them once the owner's entry is gone (R117, R43). -/
def State.DriveRemoved (s : State) (br : Bridge) (cl : Client) (u : State) : Prop :=
  u.slot (bridgeChannel br) cl = none ∧
    (∀ x y, ¬ (x = bridgeChannel br ∧ y = cl) → u.slot x y = s.slot x y) ∧
    u.HandedOver (bridgeChannel br) ∧ (∀ x, x ≠ bridgeChannel br → s.SameWish u x) ∧
    u.groups = s.groups ∧ u.quiet = s.quiet ∧ s.SameBeyondDemands u

theorem driveRemoved_disown (h : DriveOnly br cl s t) :
    s.DriveRemoved br cl ((t.disown br cl).recompute examined (bridgeChannel br)) := by
  have contained : s.Contained ((t.disown br cl).recompute examined (bridgeChannel br)) :=
    (h.contained.trans (contained_disown t br cl)).trans (contained_recompute _ examined _)
  refine ⟨?_, fun x y other => ?_, recompute_handedOver _ examined _, fun x hx => ?_, contained.groups,
    contained.quiet, contained.sameBeyond⟩
  · rw [slot_recompute, slot_disown, if_pos ⟨rfl, rfl⟩]
  · rw [slot_recompute, slot_disown, if_neg other, h.2 x y other]
  · have same : s.SameWish (t.disown br cl) x := by
      unfold State.SameWish
      rw [show (t.disown br cl).chan x = s.chan x from h.chan x]
      exact ⟨rfl, rfl, rfl⟩
    exact SameWish.trans same (recompute_sameWish _ examined _ x hx)

theorem ports_disown (t : State) (br : Bridge) (cl : Client) :
    ((t.disown br cl).recompute examined (bridgeChannel br)).ports = t.ports := (only_recompute _ examined _).ports

/-- With the owner's the last entry the channel's wish ends (R16, R121). -/
theorem disown_ends (h : DriveOnly br cl s t) (kept : s.AdmissionKept)
    (alone : ∀ y, y ≠ cl → s.slot (bridgeChannel br) y = none) (wish : (s.chan (bridgeChannel br)).wish = true) :
    (((t.disown br cl).recompute examined (bridgeChannel br)).chan (bridgeChannel br)).st =
        (s.chan (bridgeChannel br)).wishEnded.st ∧
      ((t.disown br cl).recompute examined (bridgeChannel br)).bridge br = { t.bridge br with owner := none } := by
  set ch := bridgeChannel br with hch
  set d := t.disown br cl with hd
  have chan : ∀ x, d.chan x = s.chan x := fun x => h.chan x
  have unit : d.unit (feedOf ch) = s.unit (feedOf ch) := by
    change t.unit _ = _
    unfold State.unit
    rw [h.1]
  have empty : d.combined ch = ⟨false, false, 0⟩ := combined_of_empty fun y => by
    rw [hd, slot_disown]
    split
    · rfl
    next other =>
      rw [h.2 _ y other]
      exact alone y fun e => other ⟨rfl, e⟩
  have ends : d.recompute examined ch = (d.told ch).wishEnds examined ch :=
    recompute_ends examined (by rw [chan, wish]) (by rw [empty])
  have st : ∀ x, ((d.told ch).chan x).st = (s.chan x).st := fun x => by
    unfold State.told
    rw [State.chan_setChan]
    split
    next here => rw [Channel.record_st, chan, here]
    next => rw [chan]
  have waits : (d.told ch).QueueWaits (feedOf ch) := fun e he => by
    obtain ⟨feed, waiting⟩ := kept.queueWaits _ e (unit ▸ he)
    exact ⟨feed, by rw [st, waiting]⟩
  obtain ⟨ended, _, _⟩ := wishEndedTo_wishEnds examined waits
  refine ⟨?_, ?_⟩
  · rw [ends, ended]
    by_cases rests : (s.chan ch).st = .tripped ∨ (s.chan ch).st = .locked
    · rw [Channel.wishEnded_still rests, Channel.wishEnded_still (by rw [st]; exact rests), st]
    · obtain ⟨tripped, locked⟩ := not_or.mp rests
      rw [Channel.wishEnded_st_off tripped locked,
        Channel.wishEnded_st_off (by rw [st]; exact tripped) (by rw [st]; exact locked)]
  · rw [ends]
    refine (bridge_wishEnds examined waits).trans ?_
    exact bridge_disown t br cl

/-- Where the bridges agree with their channels, the hand-over does not move the sequencer. -/
theorem bridge_disowned (h : DriveOnly br cl s t) (kept : s.AdmissionKept) (bridges : s.BridgesKept)
    (stands : s.slot (bridgeChannel br) cl ≠ none) :
    ((t.disown br cl).recompute examined (bridgeChannel br)).bridge br = { t.bridge br with owner := none } := by
  obtain ⟨drives, ⟨pending, wish, inhibited⟩, _⟩ := bridges br
  rw [combined_of_drive drives ⟨cl, stands⟩] at pending wish inhibited
  by_cases alone : ∀ y, y ≠ cl → s.slot (bridgeChannel br) y = none
  · exact (disown_ends examined h kept alone wish).2
  · obtain ⟨y, other, held⟩ : ∃ y, y ≠ cl ∧ s.slot (bridgeChannel br) y ≠ none := by simpa using alone
    have slot : ∀ z, z ≠ cl → (t.disown br cl).slot (bridgeChannel br) z = s.slot (bridgeChannel br) z := fun z hz => by
      rw [slot_disown, if_neg fun e => hz e.2, h.2 _ z fun e => hz e.2]
    have still : (t.disown br cl).combined (bridgeChannel br) = ⟨false, true, 1000⟩ := by
      refine combined_of_drive (fun z e he => ?_) ⟨y, by rw [slot y other]; exact held⟩
      by_cases hz : z = cl
      · rw [hz, slot_disown, if_pos ⟨rfl, rfl⟩] at he
        cases he
      · rw [slot z hz] at he
        exact drives z e he
    have chan : (t.disown br cl).chan (bridgeChannel br) = s.chan (bridgeChannel br) := h.chan _
    rw [recompute_of_same examined (by rw [still, chan, pending]) (by rw [still, chan, inhibited])
      (by rw [still, chan, wish])]
    exact bridge_disown t br cl

end

/-! ### The events of a drive's end (R126) -/

section
variable {s : State} {br : Bridge} {cl : Client} {dir : Direction} {n : Nat} {e : Bool}
  (owner : (s.bridge br).owner = some cl) (slot : s.slot (bridgeChannel br) cl = some (.drive dir n e))
include owner slot

theorem offerDriveEnd_eq (cause : DriveCause) (undriven : Bool) : s.offerDriveEnd br cause undriven =
    s.offerEvent (if undriven = true then .driveEnd (bridgeChannel br) cause cl dir 0 none
      else .driveEnd (bridgeChannel br) cause cl (s.bridge br).dir (s.bridge br).driven (s.bridge br).lastDrive) := by
  unfold State.offerDriveEnd State.ownerEntry
  rw [owner]
  dsimp only
  rw [slot]

/-- A drive that drops its legs, as a removal of entry and owner (R123). -/
theorem dropDrive_eq (examined : Bool) (cause : DriveCause) : s.dropDrive examined br cause =
    (((s.offerDriveEnd br cause (s.bridge br).neverDriven).dropLegs br).disown br cl).recompute examined
      (bridgeChannel br) := by
  refine removeDrive_owned ?_ examined
  rw [offerDriveEnd_eq owner slot]
  unfold State.dropLegs
  rw [State.bridge_setBridge_same]
  exact owner

end

theorem finishDrive_eq {s : State} {br : Bridge} {cl : Client} (owner : (s.bridge br).owner = some cl) :
    s.finishDrive br = ((s.setBridge br { s.bridge br with
      st := .idle, stageTimer := none, driveTimer := none, redrive := false, ending := none }).disown br cl).recompute true
        (bridgeChannel br) := by
  refine removeDrive_owned ?_ true
  rw [State.bridge_setBridge_same]
  exact owner

/-- Settles O37. -/
theorem drivesAreOver : Obligations.DrivesAreOver := by
  unfold Obligations.DrivesAreOver
  refine ⟨fun br cl dir n e s running => ?_, fun br examined cause cl dir n e s => ?_⟩
  · intro ch r dead timer noRedrive owner slot kept bridges u
    set t := (s.setBridge br { r with rest := none }).setBridge br { r with
      st := .idle, stageTimer := none, driveTimer := none, redrive := false, ending := none, rest := none } with ht
    have only : DriveOnly br cl s t := ⟨rfl, fun _ _ _ => rfl⟩
    have bridge : t.bridge br = { r with
        st := .idle, stageTimer := none, driveTimer := none, redrive := false, ending := none, rest := none } :=
      State.bridge_setBridge_same _ _ _
    have finished : u = (t.disown br cl).recompute true ch := by
      have finishes : u = (s.setBridge br { r with rest := none }).finishDrive br :=
        if_neg (by rw [show (s.bridge br).redrive = false from noRedrive]; decide)
      rw [finishes, finishDrive_eq (by rw [State.bridge_setBridge_same]; exact owner), State.bridge_setBridge_same]
    obtain ⟨empty, others, handed, same, groups, quiet, beyond⟩ := driveRemoved_disown true only
    refine ⟨?_, ?_, ?_⟩
    · exact congrArg _ (run_due s _ (State.endDeadAfterBrake br) running ((stageDue_iff s br _).mpr ⟨dead, timer⟩))
    · rw [finished, bridge_disowned true only kept bridges (by rw [slot]; exact Option.some_ne_none _), bridge, noRedrive]
    · rw [finished]
      refine ⟨empty, others, handed, same, fun alone wish runs => ?_, groups, ports_disown true t br cl, quiet, beyond⟩
      rw [(disown_ends true only kept alone wish).1]
      exact Channel.wishEnded_st_off (by rcases runs with h | h <;> rw [h] <;> decide)
        (by rcases runs with h | h <;> rw [h] <;> decide)
  · intro ch r undriven u owner slot kept
    set t := (s.offerDriveEnd br cause r.neverDriven).dropLegs br with ht
    have told := offerDriveEnd_eq owner slot cause r.neverDriven
    have only : DriveOnly br cl s t := by
      rw [ht, told]
      exact ⟨rfl, fun _ _ _ => rfl⟩
    have never : r.neverDriven = true ↔ undriven := by
      unfold BridgeRecord.neverDriven
      rw [Bool.or_eq_true, decide_eq_true_eq, decide_eq_true_eq]
    have finished : u = (t.disown br cl).recompute examined ch := dropDrive_eq owner slot examined cause
    have bridge : t.bridge br = { r with
        st := .idle, stageTimer := none, driveTimer := none, redrive := false, ending := none
        rest := s.restAfterLegsOff br } := by
      rw [ht, told]
      exact State.bridge_setBridge_same _ _ _
    obtain ⟨empty, others, handed, same, groups, quiet, beyond⟩ := driveRemoved_disown examined only
    rw [finished]
    refine ⟨?_, empty, others, handed, same, fun alone wish => ?_, groups, quiet, beyond⟩
    · rw [ports_disown, ht, told]
      refine congrArg (fun ev => (s.offerEvent ev).ports) ?_
      exact if_congr never rfl rfl
    · obtain ⟨st, gone⟩ := disown_ends examined only kept alone wish
      rw [gone, bridge]
      refine ⟨rfl, rfl, rfl, rfl, rfl, rfl, fun runs => ?_, ?_⟩
      · exact (restAfterLegsOff_eq s br).trans (if_pos (runs.imp_right .inl))
      · rw [st]
        split
        next tripped => rw [Channel.wishEnded_still (.inl tripped), tripped]
        next locked => rw [Channel.wishEnded_still (.inr locked), locked]
        next tripped locked => exact Channel.wishEnded_st_off tripped locked

end Sys2Proof.Machine
end

section
/-!
PROOF. The ends of a drive: from its DRIVE stage through DEAD, and handed over by the stage (R39, R119 to R121,
R126).
-/
namespace Sys2Proof.Machine

variable {i : Instr}

theorem PerClient.set_set {α : Type} (p : PerClient α) (cl : Client) (a b : α) : (p.set cl a).set cl b = p.set cl b := by
  cases cl <;> rfl

theorem State.setSlot_setSlot (s : State) (ch : Ch) (cl : Client) (e e' : Option Entry) :
    (s.setSlot ch cl e).setSlot ch cl e' = s.setSlot ch cl e' := by
  have demand : (s.demand.set ch (s.demand[ch].set cl e)).set ch
      ((s.demand.set ch (s.demand[ch].set cl e))[ch].set cl e') = s.demand.set ch (s.demand[ch].set cl e') := by
    have read : (s.demand.set ch (s.demand[ch].set cl e))[ch] = s.demand[ch].set cl e := Vector.getElem_set_self ch.isLt
    rw [read, PerClient.set_set]
    exact Vector.set_set _ _
  exact congrArg (fun v => ({ s with demand := v } : State)) demand

theorem PerClient.set_get {α : Type} (p : PerClient α) (cl : Client) : p.set cl (p.get cl) = p := by cases cl <;> rfl

theorem State.setSlot_slot (s : State) (ch : Ch) (cl : Client) : s.setSlot ch cl (s.slot ch cl) = s := by
  have demand : s.demand.set ch (s.demand[ch].set cl (s.demand[ch].get cl)) = s.demand := by
    rw [PerClient.set_get]
    exact Vector.set_getElem_self ch.isLt
  exact congrArg (fun v => ({ s with demand := v } : State)) demand

section
variable {s : State} {br : Bridge} {cl : Client} {dir : Direction} {n : Nat} {e : Bool}
  (owner : (s.bridge br).owner = some cl) (slot : s.slot (bridgeChannel br) cl = some (.drive dir n e))
include owner slot

/-- An end from the DRIVE stage (R121). -/
theorem endDrive_eq (drives : (s.bridge br).st = .drive) (cause : DriveCause) : s.endDrive br cause =
    ((s.setSlot (bridgeChannel br) cl (some (.drive dir n true))).offerEvent
      (.driveEnd (bridgeChannel br) cause cl (s.bridge br).dir (s.bridge br).driven (s.bridge br).lastDrive)).setBridge br
        { s.bridge br with
          st := .dead .beforeBrake, stageTimer := some (s.bridgeProfile br).deadt, driveTimer := none, redrive := false
          ending := some cause, rest := some 0 } := by
  have marks : s.markEnding br = s.setSlot (bridgeChannel br) cl (some (.drive dir n true)) := by
    unfold State.markEnding State.ownerEntry
    rw [owner]
    dsimp only
    rw [slot]
  set marked := s.setSlot (bridgeChannel br) cl (some (.drive dir n true)) with hm
  have tells : marked.offerDriveEnd br cause false = marked.offerEvent
      (.driveEnd (bridgeChannel br) cause cl (s.bridge br).dir (s.bridge br).driven (s.bridge br).lastDrive) :=
    offerDriveEnd_eq (s := marked) (e := true) owner (by rw [hm, State.slot_setSlot, if_pos ⟨rfl, rfl⟩]) cause false
  have rest : s.restAfterLegsOff br = some 0 := (restAfterLegsOff_eq s br).trans (if_pos (.inl drives))
  unfold State.endDrive
  rw [marks, tells, ← rest]
  rfl

end

/-! ### Ends handed over (R39, R121) -/

section
variable {s : State} {br : Bridge} (cause : DriveCause)

theorem handedEnd_drive (admitted : (s.chan (bridgeChannel br)).admitted = true) (h : (s.bridge br).st = .drive) :
    s.handedEnd br cause = s.endDrive br cause := by
  unfold State.handedEnd
  dsimp only
  rw [if_pos admitted, h]

theorem handedEnd_ending (admitted : (s.chan (bridgeChannel br)).admitted = true)
    (h : (s.bridge br).st = .dead .beforeBrake ∨ (s.bridge br).st = .brake ∨ (s.bridge br).st = .dead .afterBrake) :
    s.handedEnd br cause = (s.offerDriveEnd br cause (s.bridge br).redrive).setBridge br
      { (s.offerDriveEnd br cause (s.bridge br).redrive).bridge br with redrive := false, ending := some cause } := by
  unfold State.handedEnd
  dsimp only
  rw [if_pos admitted]
  rcases h with h | h | h <;> rw [h]

theorem handedEnd_undriven (h : ((s.chan (bridgeChannel br)).admitted = true ∧ (s.bridge br).st = .dead .beforeDrive) ∨
    (s.chan (bridgeChannel br)).admitted = false) :
    s.handedEnd br cause = (s.offerDriveEnd br cause true).finishDrive br := by
  unfold State.handedEnd
  dsimp only
  rcases h with ⟨admitted, dead⟩ | resting
  · rw [if_pos admitted, dead]
  · rw [if_neg (by rw [resting]; decide)]

variable {cl : Client} {dir : Direction} {n : Nat}

theorem endEntry_marked (h : s.slot (bridgeChannel br) cl = some (.drive dir n true)) :
    s.endEntry (bridgeChannel br) cl cause = s := by
  unfold State.endEntry
  rw [h]

theorem endEntry_standing (h : s.slot (bridgeChannel br) cl = some (.drive dir n false)) :
    s.endEntry (bridgeChannel br) cl cause =
      (s.setSlot (bridgeChannel br) cl (some (.drive dir n true))).handedEnd br cause := by
  unfold State.endEntry
  rw [h, bridgeOf_bridgeChannel]

end

/-- A standing drive handed its end in the DRIVE stage (R39, R121). -/
theorem endEntry_drive {s : State} {br : Bridge} {cl : Client} {dir : Direction} {n : Nat}
    (owner : (s.bridge br).owner = some cl) (slot : s.slot (bridgeChannel br) cl = some (.drive dir n false))
    (runs : (s.chan (bridgeChannel br)).st = .ramping ∨ (s.chan (bridgeChannel br)).st = .on)
    (drives : (s.bridge br).st = .drive) (cause : DriveCause) : s.endEntry (bridgeChannel br) cl cause =
      s.endDrive br cause := by
  set marked := s.setSlot (bridgeChannel br) cl (some (.drive dir n true)) with hm
  have held : marked.slot (bridgeChannel br) cl = some (.drive dir n true) := by
    rw [hm, State.slot_setSlot, if_pos ⟨rfl, rfl⟩]
  have again : marked.setSlot (bridgeChannel br) cl (some (.drive dir n true)) = marked := State.setSlot_setSlot s _ cl _ _
  rw [endEntry_standing cause slot, handedEnd_drive (s := marked) cause ((Channel.admitted_iff _).mpr runs) drives,
    endDrive_eq (s := marked) owner held drives cause, again, endDrive_eq owner slot drives cause]
  rfl

/-- Settles O36. -/
theorem handedEndsActByTheStage : Obligations.HandedEndsActByTheStage := by
  unfold Obligations.HandedEndsActByTheStage
  intro cl cause br dir n e s ch r c admitted t owner slot marked told
  have held : marked.slot ch cl = some (.drive dir n true) := (State.slot_setSlot s ch ch cl cl _).trans (if_pos ⟨rfl, rfl⟩)
  have hands : e = false → t = marked.handedEnd br cause := fun clear => by
    subst clear
    exact endEntry_standing cause slot
  have offers : ∀ undriven, marked.offerDriveEnd br cause undriven = marked.offerEvent
      (if undriven = true then .driveEnd ch cause cl dir 0 none else .driveEnd ch cause cl r.dir r.driven r.lastDrive) :=
    offerDriveEnd_eq (s := marked) owner held cause
  have admits : admitted → (marked.chan ch).admitted = true := (Channel.admitted_iff c).mpr
  refine ⟨fun ended => ?_, fun clear runs drives => ?_, fun clear runs redrive stage => ?_, fun clear early => ?_⟩
  · subst ended
    exact endEntry_marked cause slot
  · subst clear
    exact (endEntry_drive owner slot runs drives cause).trans (endDrive_eq owner slot drives cause)
  · rw [hands clear, handedEnd_ending cause (admits runs) stage,
      show (marked.bridge br).redrive = true from redrive, offers, if_pos rfl]
    rfl
  · set v := told.setBridge br { r with
      st := .idle, stageTimer := none, driveTimer := none, redrive := false, ending := none } with hv
    have only : DriveOnly br cl s v := ⟨rfl, fun x y other => (State.slot_setSlot s ch x cl y _).trans (if_neg other)⟩
    have bridge : v.bridge br = { r with
        st := .idle, stageTimer := none, driveTimer := none, redrive := false, ending := none } :=
      State.bridge_setBridge_same _ _ _
    have ends : t = (v.disown br cl).recompute true ch := by
      rw [hands clear, handedEnd_undriven cause ?_, offers, if_pos rfl, finishDrive_eq (s := told) owner]
      · rfl
      · exact early.imp (fun h => ⟨admits h.1, h.2⟩)
          fun h => (Bool.not_eq_true _).mp fun a => h.1 ((Channel.admitted_iff c).mp a)
    obtain ⟨empty, others, handed, same, groups, quiet, beyond⟩ := driveRemoved_disown true only
    rw [ends]
    refine ⟨ports_disown true v br cl, empty, others, fun kept alone wish tripped locked => ?_, fun kept bridges => ?_,
      handed, same, groups, quiet, beyond⟩
    · rw [(disown_ends true only kept alone wish).1]
      exact Channel.wishEnded_st_off tripped locked
    · rw [bridge_disowned true only kept bridges (by rw [slot]; exact Option.some_ne_none _), bridge]

end Sys2Proof.Machine
end

section
/-!
PROOF. The ends from the DRIVE stage: the drive timer, the owner's release, the stall check (R119 to R121, R126).
-/
namespace Sys2Proof.Machine

variable {i : Instr}

/-! ### The stall counter (R120) -/

theorem stallCount_off (st : ChState) (o : Option Nat) (k : Nat) : stallCount 0 st o k = 0 := if_pos rfl

section
variable {p : Nat} (watched : 0 < p) {st : ChState} {o : Option Nat} (k : Nat)
include watched

theorem stallCount_ramping (h : st ≠ .on) : stallCount p st o k = k :=
  (if_neg (Nat.pos_iff_ne_zero.mp watched)).trans (if_pos h)

theorem stallCount_on : stallCount p .on o k = if ∃ x, o = some x ∧ p ≤ x then k + 1 else 0 := by
  refine ((if_neg (Nat.pos_iff_ne_zero.mp watched)).trans (if_neg (not_not.mpr rfl))).trans ?_
  cases o with
  | none => simp
  | some x => simp

end

section
variable {s : State} {br : Bridge} {o : Option Nat} {n : Nat} (drives : (s.bridge br).st = .drive)
  (count : stallCount (s.bridgeProfile br).stall (s.chan (bridgeChannel br)).st o (s.bridge br).stall = n)
include drives count

theorem stallCheck_counts (below : ¬ ((s.bridgeProfile br).stall ≠ 0 ∧ (s.bridge br).stall < n ∧
    (s.bridgeProfile br).stallt ≤ n)) : s.stallCheck br o = s.setBridge br { s.bridge br with stall := n } := by
  subst count
  exact (if_pos drives).trans (if_neg below)

theorem stallCheck_ends (reaches : (s.bridgeProfile br).stall ≠ 0 ∧ (s.bridge br).stall < n ∧
    (s.bridgeProfile br).stallt ≤ n) :
    s.stallCheck br o = (s.setBridge br { s.bridge br with stall := n }).endDrive br .stall := by
  subst count
  exact (if_pos drives).trans (if_pos reaches)

end

/-! ### The open-load count leaves the drive alone (R82) -/

theorem openCheck_keeps (s : State) (ch : Ch) (o : Option Nat) :
    s.openCheck ch o = { s with chans := (s.openCheck ch o).chans, ports := (s.openCheck ch o).ports } ∧
      SamePlace (s.chan ch) ((s.openCheck ch o).chan ch) := by
  have written : ∀ d : Channel, SamePlace (s.chan ch) d → ∀ t : State, t.chan ch = (s.setChan ch d).chan ch →
      SamePlace (s.chan ch) (t.chan ch) := fun d same t h => by
    rw [h, State.chan_setChan_same]
    exact same
  have place : ∀ x, SamePlace (s.chan ch) ((s.chan ch).countOpen x) := fun x => by
    unfold Channel.countOpen
    split <;> exact ⟨rfl, rfl⟩
  unfold State.openCheck
  dsimp only
  split
  · exact ⟨rfl, .refl _⟩
  next x _ =>
    split
    · exact ⟨rfl, written { (s.chan ch).countOpen x with openFlag := true } (place x) _ rfl⟩
    · split
      · exact ⟨rfl, written { (s.chan ch).countOpen x with openFlag := false } (place x) _ rfl⟩
      · exact ⟨rfl, written ((s.chan ch).countOpen x) (place x) _ rfl⟩

theorem fullScale_bridge (br : Bridge) : (typeOf (bridgeChannel br)).fullScale = 600 := by cases br <;> rfl

/-- Settles O35. -/
theorem drivesEndThroughDead : Obligations.DrivesEndThroughDead := by
  unfold Obligations.DrivesEndThroughDead
  intro br cl dir n rms onCur b port s ch r c p running drives owner slot ends
  refine ⟨fun timer => ?_, fun takes named runs => ?_, ?_⟩
  · have ended : State.expireDrive br s = ends s (if r.openEnded = true then .maxtime else .time) :=
      endDrive_eq owner slot drives _
    exact congrArg _ ((run_due s _ (State.expireDrive br) running ((driveDue_iff s br).mpr ⟨drives, timer⟩)).trans
      (congrArg (State.settle s) ended))
  · refine (release_accepted takes named).trans (congrArg _ (accepted_congr ?_))
    set u := s.heard ⟨port, cl⟩ with hu
    have bridge : u.bridge br = r := heard_bridge s _ br
    have held : u.slot ch cl = some (.drive dir n false) := (heard_slot s _ ch cl).trans slot
    have chan : u.chan ch = c := heard_chan s _ ch
    have profile : u.bridgeProfile br = p := congrArg (fun d : Channel => d.profile.bridgeFields) chan
    have drives' : (u.bridge br).st = .drive := by rw [bridge]; exact drives
    have owner' : (u.bridge br).owner = some cl := by rw [bridge]; exact owner
    dsimp only
    rw [releaseEntry_drive (by rw [held]; rfl), endEntry_drive owner' held (by rw [chan]; exact runs) drives',
      endDrive_eq owner' held drives', profile, bridge]
    dsimp only [ends]
    rw [bridge]
  · intro i x q sampled counts samples high runs below cold
    have conducts : s.conducts ch = true := (conducts_bridge (bridgeOf_bridgeChannel br)).mpr ⟨running.1, drives⟩
    have sensed : s.sensed ch onCur = onCur := (sensed_eq s ch onCur).trans (if_pos (.inr conducts))
    have scale : (typeOf ch).fullScale = 600 := fullScale_bridge br
    have hi : s.sampleRms ch rms onCur = i := by rw [sampleRms_eq, sensed, scale]
    have ho : s.sampleOn ch onCur = x := by rw [sampleOn_eq, sensed, scale]
    have keeps : s.keepSample ch i x = sampled := by
      have stored : s.driveCurrentKept ch x = s.setBridge br { r with lastDrive := x } :=
        (driveCurrentKept_of_bridge x (bridgeOf_bridgeChannel br)).trans (if_pos drives)
      rw [keepSample_eq, stored, takeSample_eq]
      rfl
    have chan : sampled.chan ch = { c with lastRms := i, lastOn := x, q := q, conducted := false } :=
      State.chan_setChan_same _ _ _
    have admitted : (sampled.chan ch).admitted = true := by
      rw [chan]
      exact (Channel.admitted_iff _).mpr runs
    have calm : (sampled.chan ch).tripCauseOf x = none := by
      rw [chan]
      exact calm_of below cold
    obtain ⟨only, st, profile⟩ := openCheck_keeps sampled ch x
    set w := sampled.openCheck ch x with hw
    have sample : ∀ t, w.stallCheck br x = t → samples t := fun t h =>
      exec_senseSample running ((senseSample_of hi ho).trans (by
        rw [keeps, checkSample_bridge i x admitted calm (bridgeOf_bridgeChannel br), h]))
    have bridge : w.bridge br = { r with lastDrive := x } := by
      unfold State.bridge
      rw [only]
      exact State.bridge_setBridge_same _ _ _
    have held : w.slot ch cl = some (.drive dir n false) := by
      unfold State.slot
      rw [only]
      exact slot
    have st' : (w.chan ch).st = c.st := by rw [st, chan]
    have kept : (w.chan ch).profile = c.profile := by rw [profile, chan]
    have profile' : w.bridgeProfile br = p := congrArg Profile.bridgeFields kept
    have drives' : (w.bridge br).st = .drive := by rw [bridge]; exact drives
    have count : ∀ k, stallCount p.stall c.st x r.stall = k →
        stallCount (w.bridgeProfile br).stall (w.chan ch).st x (w.bridge br).stall = k := fun k h => by
      rw [profile', st', bridge]
      exact h
    have counted : ∀ k, stallCount p.stall c.st x r.stall = k → ¬ (p.stall ≠ 0 ∧ r.stall < k ∧ p.stallt ≤ k) →
        samples (counts k) := fun k h noEnd => sample _ (by
      rw [stallCheck_counts drives' (count k h) (by rw [profile', bridge]; exact noEnd), bridge])
    refine ⟨fun unwatched => ?_, fun watched ramping => ?_, fun watched on => ⟨fun low => ?_, fun isHigh early => ?_,
      fun isHigh late => ?_⟩⟩
    · exact counted 0 (by rw [unwatched]; exact stallCount_off _ _ _) fun h => h.1 unwatched
    · exact counted r.stall (stallCount_ramping watched r.stall (by rw [ramping]; decide))
        fun h => absurd h.2.1 (Nat.lt_irrefl _)
    · exact counted 0 (by rw [on]; exact (stallCount_on watched r.stall).trans (if_neg low))
        fun h => absurd h.2.1 (Nat.not_lt_zero _)
    · exact counted (r.stall + 1) (by rw [on]; exact (stallCount_on watched r.stall).trans (if_pos isHigh))
        fun h => absurd h.2.2 (Nat.not_le.mpr early)
    · have raised : stallCount p.stall c.st x r.stall = r.stall + 1 := by
        rw [on]
        exact (stallCount_on watched r.stall).trans (if_pos isHigh)
      have reaches : p.stall ≠ 0 ∧ r.stall < r.stall + 1 ∧ p.stallt ≤ r.stall + 1 :=
        ⟨Nat.pos_iff_ne_zero.mp watched, Nat.lt_succ_self _, late⟩
      refine ⟨sample _ ?_, ?_⟩
      · rw [stallCheck_ends drives' (count _ raised) (by rw [profile', bridge]; exact reaches), bridge]
        set v := counts (r.stall + 1) with hv
        have bridge_v : v.bridge br = { r with lastDrive := x, stall := r.stall + 1 } := State.bridge_setBridge_same _ _ _
        refine (endDrive_eq (s := v) (by rw [bridge_v]; exact owner) held (by rw [bridge_v]; exact drives) .stall).trans ?_
        rw [show v.bridgeProfile br = p from profile']
        dsimp only [ends]
        rw [bridge_v]
      · have due : s.sampleStalls br rms onCur = true := by
          have calmSample : s.sampleCounts ch rms onCur = true := by
            unfold State.sampleCounts
            dsimp only
            rw [hi, ho, takeSample_eq]
            rw [chan] at admitted calm
            exact Bool.and_eq_true_iff.mpr ⟨admitted, decide_eq_true calm⟩
          unfold State.sampleStalls
          dsimp only
          rw [calmSample, ho, show stallCount (s.bridgeProfile br).stall (s.chan (bridgeChannel br)).st x
            (s.bridge br).stall = r.stall + 1 from raised]
          simp only [Bool.and_eq_true, decide_eq_true_eq]
          exact ⟨⟨⟨⟨trivial, drives⟩, reaches.1⟩, reaches.2.1⟩, late⟩
        exact congrArg _ (run_asStep (due := fun t => t.sampleStalls br rms onCur) running due _)

end Sys2Proof.Machine
end

section
/-!
PROOF. The ends of a flash group's phases (R109 to R113).
-/
namespace Sys2Proof.Machine

variable {i : Instr}

theorem State.setGroup_setGroup (s : State) (g : Sys2Proof.Group) (r r' : FlashGroup) :
    (s.setGroup g r).setGroup g r' = s.setGroup g r' := by
  cases g <;> rfl

/-! ### One entry at the end of an ON_PHASE (R111) -/

/-- What an ON_PHASE end leaves of an entry. -/
def Entry.afterFlash (g : Sys2Proof.Group) (e : Entry) : Option Entry :=
  if e.counts g = true then (if e.countFlash.remainingCount = 0 then none else some e.countFlash) else some e

/-- The event of an entry that an ON_PHASE end uses up. -/
def Entry.doneEvent (g : Sys2Proof.Group) (ch : Ch) (cl : Client) (e : Entry) : Option Event :=
  if e.counts g = true ∧ e.countFlash.remainingCount = 0 then some (.flashDone ch cl g e.recordedCount) else none

theorem Entry.afterFlash_flash (g h : Sys2Proof.Group) (d n r : Nat) (held : Bool) :
    (Entry.flash d h n r true held).afterFlash g =
      if h = g ∧ 0 < n then (if r ≤ 1 then none else some (.flash d h n (r - 1) true held))
      else some (.flash d h n r true held) := by
  refine if_congr ?_ (if_congr ?_ rfl rfl) rfl
  · simp [Entry.counts]
  · exact Nat.sub_eq_zero_iff_le

theorem Entry.doneEvent_flash (g h : Sys2Proof.Group) (ch : Ch) (cl : Client) (d n r : Nat) (held : Bool) :
    (Entry.flash d h n r true held).doneEvent g ch cl =
      if h = g ∧ 0 < n ∧ r ≤ 1 then some (.flashDone ch cl g n) else none := by
  refine if_congr ?_ rfl rfl
  rw [← and_assoc]
  refine and_congr ?_ Nat.sub_eq_zero_iff_le
  simp [Entry.counts]

theorem Entry.counts_uncounted {g : Sys2Proof.Group} {e : Entry} (h : ∀ d k n r held, e ≠ .flash d k n r true held) :
    e.counts g = false := by
  cases e with
  | flash d k n r started held =>
    cases started with
    | true => exact absurd rfl (h d k n r held)
    | false => simp [Entry.counts]
  | _ => rfl

theorem Entry.afterFlash_uncounted {g : Sys2Proof.Group} {e : Entry} (h : ∀ d k n r held, e ≠ .flash d k n r true held) :
    e.afterFlash g = some e := if_neg (by rw [Entry.counts_uncounted h]; decide)

theorem Entry.doneEvent_uncounted {g : Sys2Proof.Group} {ch : Ch} {cl : Client} {e : Entry}
    (h : ∀ d k n r held, e ≠ .flash d k n r true held) : e.doneEvent g ch cl = none :=
  if_neg fun c => by rw [Entry.counts_uncounted h] at c; cases c.1

theorem Entry.remaining_le_one {g : Sys2Proof.Group} {e : Entry} (counts : e.counts g = true)
    (last : e.countFlash.remainingCount = 0) : e.remainingCount ≤ 1 := by
  cases e with
  | flash d k n r started held => exact Nat.sub_eq_zero_iff_le.mp last
  | _ => cases counts

theorem Entry.startOn_flash (g h : Sys2Proof.Group) (d n r : Nat) (started held : Bool) :
    (Entry.flash d h n r started held).startOn g =
      if h = g then .flash d h n r true held else .flash d h n r started held :=
  if_congr Option.some_inj rfl rfl

theorem Entry.startOn_plain {g : Sys2Proof.Group} {e : Entry}
    (h : ∀ d k n r started held, e ≠ .flash d k n r started held) : e.startOn g = e := by
  cases e with
  | flash d k n r started held => exact absurd rfl (h d k n r started held)
  | _ => rfl

/-! ### One slot -/

/-- The FLASH_DONE that a slot sends at the end of the group's ON_PHASE. -/
def State.flashDoneAt (s : State) (g : Sys2Proof.Group) (x : Ch × Client) : Option Event :=
  (s.slot x.1 x.2).bind (Entry.doneEvent g x.1 x.2)

section
variable (g : Sys2Proof.Group) (ch : Ch) (cl : Client) (s : State)

theorem countSlot_eq : State.countSlot g ch cl s =
    ((s.flashDoneAt g (ch, cl)).elim id (fun e t => t.offerEvent e))
      (s.setSlot ch cl ((s.slot ch cl).bind (Entry.afterFlash g))) := by
  have same : ∀ o, s.slot ch cl = o → s.setSlot ch cl o = s := by
    rintro o rfl
    exact State.setSlot_slot s ch cl
  unfold State.countSlot State.flashDoneAt
  cases slot : s.slot ch cl with
  | none => exact (same none slot).symm
  | some e =>
    dsimp only [Option.bind_some]
    unfold Entry.doneEvent Entry.afterFlash
    by_cases counts : e.counts g = true
    · by_cases last : e.countFlash.remainingCount = 0
      · rw [if_pos counts, if_pos last, if_pos ⟨counts, last⟩, if_pos counts, if_pos last]
        rfl
      · rw [if_pos counts, if_neg last, if_neg fun c => last c.2, if_pos counts, if_neg last]
        rfl
    · rw [if_neg counts, if_neg fun c => counts c.1, if_neg counts]
      exact (same _ slot).symm

theorem slot_countSlot (x : Ch) (y : Client) : (State.countSlot g ch cl s).slot x y =
    if x = ch ∧ y = cl then (s.slot x y).bind (Entry.afterFlash g) else s.slot x y := by
  have written : (State.countSlot g ch cl s).slot x y =
      (s.setSlot ch cl ((s.slot ch cl).bind (Entry.afterFlash g))).slot x y := by
    rw [countSlot_eq]
    cases s.flashDoneAt g (ch, cl) <;> rfl
  rw [written, State.slot_setSlot]
  by_cases here : x = ch ∧ y = cl
  · rw [if_pos here, if_pos here, here.1, here.2]
  · rw [if_neg here, if_neg here]

theorem countSlot_only : State.countSlot g ch cl s = { s with
    demand := (State.countSlot g ch cl s).demand, ports := (State.countSlot g ch cl s).ports } := by
  rw [countSlot_eq]
  cases s.flashDoneAt g (ch, cl) <;> rfl

end

/-! ### All slots -/

theorem ports_offerEvent_congr {s t : State} (ports : t.ports = s.ports) (zone : t.zone = s.zone) (e : Event) :
    (t.offerEvent e).ports = (s.offerEvent e).ports := by
  unfold State.offerEvent State.eventFrame State.setPort State.port
  rw [ports, zone]

theorem ports_offerEvents_congr {s t : State} (l : List Event) (ports : t.ports = s.ports) (zone : t.zone = s.zone) :
    (l.foldl State.offerEvent t).ports = (l.foldl State.offerEvent s).ports := by
  induction l generalizing s t with
  | nil => exact ports
  | cons e l ih => exact ih (ports_offerEvent_congr ports zone e) zone

section
variable (g : Sys2Proof.Group)

theorem slot_countSlots {l : List (Ch × Client)} (nodup : l.Nodup) (s : State) (x : Ch) (y : Client) :
    (s.overSlots (State.countSlot g) l).slot x y =
      if (x, y) ∈ l then (s.slot x y).bind (Entry.afterFlash g) else s.slot x y := by
  unfold State.overSlots
  induction l generalizing s with
  | nil => rfl
  | cons p l ih =>
    obtain ⟨fresh, rest⟩ := List.nodup_cons.mp nodup
    rw [List.foldl_cons, ih rest, slot_countSlot]
    by_cases here : (x, y) = p
    · subst here
      simp [fresh]
    · have other : ¬ (x = p.1 ∧ y = p.2) := fun c => here (Prod.ext c.1 c.2)
      simp [here, other]

theorem ports_countSlots {l : List (Ch × Client)} (nodup : l.Nodup) (s : State) :
    (s.overSlots (State.countSlot g) l).ports =
      ((l.filterMap (s.flashDoneAt g)).foldl State.offerEvent s).ports := by
  unfold State.overSlots
  induction l generalizing s with
  | nil => rfl
  | cons p l ih =>
    obtain ⟨fresh, rest⟩ := List.nodup_cons.mp nodup
    have later : l.filterMap ((State.countSlot g p.1 p.2 s).flashDoneAt g) = l.filterMap (s.flashDoneAt g) :=
      List.filterMap_congr fun q mem => by
        have other : ¬ (q.1 = p.1 ∧ q.2 = p.2) := fun c => fresh (Prod.ext c.1 c.2 ▸ mem)
        unfold State.flashDoneAt
        rw [slot_countSlot, if_neg other]
    rw [List.foldl_cons, ih rest, later, List.filterMap_cons]
    have step := countSlot_eq g p.1 p.2 s
    cases done : s.flashDoneAt g p with
    | none =>
      rw [show s.flashDoneAt g (p.1, p.2) = none from done] at step
      rw [step]
      exact ports_offerEvents_congr _ rfl rfl
    | some e =>
      rw [show s.flashDoneAt g (p.1, p.2) = some e from done] at step
      rw [step]
      exact ports_offerEvents_congr _ rfl rfl

theorem only_countSlots (l : List (Ch × Client)) (s : State) : s.overSlots (State.countSlot g) l = { s with
    demand := (s.overSlots (State.countSlot g) l).demand, ports := (s.overSlots (State.countSlot g) l).ports } :=
  only_overSlots (R := fun s t => t = { s with demand := t.demand, ports := t.ports }) (fun _ => rfl)
    (fun {s t u} h k => by rw [k, h]) (fun ch cl s => countSlot_only g ch cl s) s l

end

theorem allSlots_nodup : allSlots.Nodup := by decide

theorem mem_flashChannels {s : State} {g : Sys2Proof.Group} {ch : Ch} :
    ch ∈ s.flashChannels g ↔ ∃ cl, s.flashesAt ch cl = some g := by
  unfold State.flashChannels State.channelFlashes
  rw [List.mem_filter, List.any_eq_true]
  simp [mem_allChannels, mem_allClients, flashesOn_eq]

theorem handedTo_flashChannels (s t : State) (g : Sys2Proof.Group) :
    t.HandedTo (s.flashChannels g) (t.overChannels (fun ch u => u.recomputed ch) (s.flashChannels g)) :=
  handedTo_recompute _ t

/-- What a phase end comes to, once the channels with entries of the group have their combined demand. -/
theorem phaseEnd_of {s t u : State} {g : Sys2Proof.Group} {r : FlashGroup} (handed : t.HandedTo (s.flashChannels g) u)
    (only : t = { s.setGroup g r with demand := t.demand, ports := t.ports }) :
    u.group g = r ∧ (∀ h, h ≠ g → u.group h = s.group h) ∧ (∀ ch cl, u.slot ch cl = t.slot ch cl) ∧
      (∀ ch, (∃ cl, s.flashesAt ch cl = some g) → u.HandedOver ch) ∧
      (∀ ch, (∀ cl, s.flashesAt ch cl ≠ some g) → s.SameWish u ch) ∧
      u.ports = t.ports ∧ u.quiet = s.quiet ∧ s.SameBeyondDemands u := by
  obtain ⟨admission, learned, handsOver, same⟩ := handed
  have chans : t.chans = s.chans := by rw [only]; rfl
  have group : ∀ h, u.group h = (s.setGroup g r).group h := fun h => by
    unfold State.group
    rw [admission.groups, only]
  refine ⟨(group g).trans (State.group_setGroup_same _ _ _), fun h other => ?_, fun ch cl => ?_, fun ch holds => ?_,
    fun ch none_ => ?_, admission.ports, ?_, ?_⟩
  · rw [group, State.group_setGroup, if_neg other]
  · exact State.slot_congr admission.demand ch cl
  · exact handsOver ch (mem_flashChannels.mpr holds)
  · exact SameWish.trans ((handed_of_chans chans).sameWish ch)
      (same ch fun mem => (mem_flashChannels.mp mem).elim fun cl h => none_ cl h)
  · rw [admission.toDemand.toBlocks.quiet, only]
    rfl
  · refine sameBeyond_of (OnlyDemand.trans (t := t) ?_ admission.toDemand) ?_ ((handed_of_chans chans).learned.trans learned)
    · unfold OnlyDemand
      rw [only]
      rfl
    · rw [admission.placed, only]
      rfl

/-! ### OFF_PHASE_END (R109, R110, R112) -/

theorem endOffPhase_idle {s : State} {g : Sys2Proof.Group} (h : ∀ ch cl, s.flashesAt ch cl ≠ some g) :
    s.endOffPhase g = s.setGroup g (s.group g).goIdle :=
  if_pos (List.eq_nil_iff_forall_not_mem.mpr fun ch mem => (mem_flashChannels.mp mem).elim fun cl held => h ch cl held)

theorem endOffPhase_cycles {s : State} {g : Sys2Proof.Group} {ch : Ch} {cl : Client} (h : s.flashesAt ch cl = some g) :
    s.endOffPhase g = (((s.setGroup g (s.group g).takePending).startCycle g).overSlots (State.startSlot g)
      allSlots).overChannels (fun ch t => t.recomputed ch) (s.flashChannels g) :=
  if_neg fun empty => by
    have mem := mem_flashChannels.mpr ⟨cl, h⟩
    rw [empty] at mem
    cases mem

/-- The record of a group that goes on with a new cycle (R109). -/
theorem startedGroup_pending (s : State) (g : Sys2Proof.Group) :
    (s.setGroup g (s.group g).takePending).startedGroup g =
      { (s.group g).takePending with
        fast := s.fastFlag g, phase := .onPhase
        timer := some { (s.group g).takePending with fast := s.fastFlag g }.onLength } := by
  unfold State.startedGroup
  rw [State.group_setGroup_same]
  rfl

/-- Settles O40. -/
theorem phasesEnd : Obligations.PhasesEnd := by
  unfold Obligations.PhasesEnd
  refine ⟨fun g s => ?_, fun g s running off timer => ?_⟩
  · intro u done due
    set s1 := s.setGroup g { s.group g with phase := .offPhase, timer := some (s.group g).offLength } with hs1
    set t := s1.overSlots (State.countSlot g) allSlots with ht
    have handed : t.HandedTo (s.flashChannels g) u := handedTo_flashChannels s t g
    obtain ⟨group, others, slots, handsOver, same, ports, quiet, beyond⟩ := phaseEnd_of handed (only_countSlots g allSlots s1)
    have slot : ∀ ch cl, u.slot ch cl = (s.slot ch cl).bind (Entry.afterFlash g) := fun ch cl => by
      rw [slots, ht, slot_countSlots g allSlots_nodup, if_pos (mem_allSlots ch cl)]
      rfl
    have done_eq : ∀ x, done x = s.flashDoneAt g x := fun x => by
      dsimp only [done]
      unfold State.flashDoneAt
      split
      next slot => rw [slot, Option.bind_some, Entry.doneEvent_flash]
      next other =>
        cases slot : s.slot x.1 x.2 with
        | none => rfl
        | some e =>
          rw [Option.bind_some, Entry.doneEvent_uncounted]
          rintro d k n r held rfl
          exact other d k n r held slot
    have phase : due → s.phaseDue g .onPhase = true := fun h => (phaseDue_iff s g .onPhase).mpr h.2
    have ends : due → exec (.onPhaseEnd g) s = .next (State.settle s u) := fun h =>
      congrArg _ (run_due s (State.phaseDue g .onPhase) (fun t => t.endOnPhase g) h.1 (phase h))
    refine ⟨ends, fun h ch cl isDone => ?_, group, others, fun ch cl => ?_, handsOver, same, ?_, quiet, beyond⟩
    · rw [done_eq] at isDone
      cases held : s.slot ch cl with
      | none =>
        unfold State.flashDoneAt at isDone
        rw [held] at isDone
        cases isDone
      | some e =>
        have last : e.counts g = true ∧ e.countFlash.remainingCount = 0 := by
          by_contra no
          unfold State.flashDoneAt at isDone
          rw [held, Option.bind_some, Entry.doneEvent, if_neg no] at isDone
          cases isDone
        refine ⟨?_, ?_⟩
        · rw [ends h]
          refine congrArg _ (run_due s (fun t => t.phaseDue g .onPhase && t.lastFlash g ch cl) (fun t => t.endOnPhase g)
            h.1 ?_)
          rw [phase h, Bool.true_and]
          unfold State.lastFlash
          rw [held]
          exact Bool.and_eq_true_iff.mpr ⟨last.1, decide_eq_true (Entry.remaining_le_one last.1 last.2)⟩
        · rw [slot, held, Option.bind_some, Entry.afterFlash, if_pos last.1, if_pos last.2]
    · rw [slot]
      split
      next held => rw [held, Option.bind_some, Entry.afterFlash_flash]
      next other =>
        cases held : s.slot ch cl with
        | none => rfl
        | some e =>
          rw [Option.bind_some, Entry.afterFlash_uncounted]
          rintro d k n r held' rfl
          exact other d k n r held' held
    · rw [ports, ht, ports_countSlots g allSlots_nodup, show done = s.flashDoneAt g from funext done_eq]
      exact ports_offerEvents_congr _ rfl rfl
  · intro r holds taken
    have due : s.phaseDue g .offPhase = true := (phaseDue_iff s g .offPhase).mpr ⟨off, timer⟩
    have ends : exec (.offPhaseEnd g) s = .next (State.settle s (s.endOffPhase g)) :=
      congrArg _ (run_due s (State.phaseDue g .offPhase) (fun t => t.endOffPhase g) running due)
    refine ⟨fun empty => ?_, fun ⟨x, y, held⟩ => ?_⟩
    · rw [ends, endOffPhase_idle fun ch cl h => empty ch ⟨cl, h⟩]
      rfl
    · intro u cycle
      set s1 := s.setGroup g r.takePending with hs1
      set t := (s1.startCycle g).overSlots (State.startSlot g) allSlots with ht
      have u_eq : u = t.overChannels (fun ch t => t.recomputed ch) (s.flashChannels g) := endOffPhase_cycles held
      have handed : t.HandedTo (s.flashChannels g) u := u_eq ▸ handedTo_flashChannels s t g
      have fast : s.fastFlag g = cycle.fast := by
        rw [Bool.eq_iff_iff, fastFlag_iff]
        simp only [cycle, List.any_eq_true, Bool.and_eq_true, decide_eq_true_eq]
        simp only [mem_allChannels, mem_allClients, true_and]
        rfl
      have record : s1.startedGroup g = { cycle with phase := .onPhase, timer := some cycle.onLength } := by
        rw [hs1, startedGroup_pending, fast]
        rfl
      have only : t = { s.setGroup g { cycle with phase := .onPhase, timer := some cycle.onLength } with
          demand := t.demand, ports := t.ports } := by
        have starts : t = { s1.startCycle g with demand := t.demand } := only_startSlots g allSlots (s1.startCycle g)
        have begun : s1.startCycle g = s.setGroup g { cycle with phase := .onPhase, timer := some cycle.onLength } := by
          rw [startCycle_eq, record, hs1, State.setGroup_setGroup]
        have quietPorts : t.ports = s.ports := by
          rw [starts, begun]
          rfl
        rw [begun] at starts
        rw [quietPorts]
        exact starts
      obtain ⟨group, others, slots, handsOver, same, ports, quiet, beyond⟩ := phaseEnd_of handed only
      refine ⟨ends, group, others, fun ch cl => ?_, handsOver, fun ch none_ => same ch fun cl h => none_ ⟨cl, h⟩,
        ?_, quiet, beyond⟩
      · rw [slots, ht, slot_startSlots, if_pos (mem_allSlots ch cl), show (s1.startCycle g).slot ch cl = s.slot ch cl from rfl]
        split
        next held' =>
          rw [held', Option.map_some, Entry.startOn_flash]
          exact apply_ite some _ _ _
        next other =>
          cases held' : s.slot ch cl with
          | none => rfl
          | some e =>
            rw [Option.map_some, Entry.startOn_plain]
            rintro d h n k st held rfl
            exact other d h n k st held held'
      · rw [ports, ht, only_startSlots]
        rfl

end Sys2Proof.Machine
end

section
/-!
PROOF. The channels that a feed's change suspends, one after the other: what each suspension does to its own channel
and that it leaves the others alone (R124, R132, R133).
-/
namespace Sys2Proof.Machine

variable {i : Instr}

/-! ### Two states that agree on one channel -/

/-- A channel's record, its entries and, for a bridge, its sequencer are the same; so are the flash groups. -/
def AgreesAt (x : Ch) (s t : State) : Prop :=
  t.chan x = s.chan x ∧ (∀ y, t.slot x y = s.slot x y) ∧ (∀ br, bridgeOf x = some br → t.bridge br = s.bridge br) ∧
    t.groups = s.groups

theorem AgreesAt.refl (x : Ch) (s : State) : AgreesAt x s s := ⟨rfl, fun _ => rfl, fun _ _ => rfl, rfl⟩

theorem AgreesAt.trans {x : Ch} {s t u : State} (h : AgreesAt x s t) (k : AgreesAt x t u) : AgreesAt x s u := by
  obtain ⟨chan, slots, bridge, groups⟩ := h
  obtain ⟨chan', slots', bridge', groups'⟩ := k
  exact ⟨chan'.trans chan, fun y => (slots' y).trans (slots y), fun br hb => (bridge' br hb).trans (bridge br hb),
    groups'.trans groups⟩

theorem AgreesAt.bridgeKept {s t : State} {br : Bridge} (h : AgreesAt (bridgeChannel br) s t) (kept : s.BridgeKept br) :
    t.BridgeKept br := by
  obtain ⟨chan, slots, bridge, _⟩ := h
  exact bridgeKept_elsewhere slots chan (bridge br (bridgeOf_bridgeChannel br)) kept

theorem agreesAt_setUnit (x : Ch) (s : State) (f : Feed) (u : Admission) : AgreesAt x s (s.setUnit f u) := .refl x s

theorem agreesAt_offerEvent (x : Ch) (s : State) (e : Event) : AgreesAt x s (s.offerEvent e) := .refl x s

section
variable {x ch : Ch} (other : x ≠ ch)
include other

theorem agreesAt_setChan (s : State) (c : Channel) : AgreesAt x s (s.setChan ch c) :=
  ⟨by rw [State.chan_setChan, if_neg other], fun _ => rfl, fun _ _ => rfl, rfl⟩

theorem agreesAt_setSlot (s : State) (cl : Client) (e : Option Entry) : AgreesAt x s (s.setSlot ch cl e) :=
  ⟨rfl, fun y => by rw [State.slot_setSlot, if_neg fun c => other c.1], fun _ _ => rfl, rfl⟩

theorem agreesAt_leaveTo (s : State) (dest : ChState) : AgreesAt x s (s.leaveTo ch dest) := by
  unfold State.leaveTo
  dsimp only
  split
  · exact (agreesAt_setUnit x s (feedOf ch) _).trans (agreesAt_setChan other _ _)
  · exact (agreesAt_setUnit x s (feedOf ch) _).trans (agreesAt_setChan other _ _)
  · exact (agreesAt_setUnit x s (feedOf ch) _).trans (agreesAt_setChan other _ _)
  · exact agreesAt_setChan other _ _

end

theorem agreesAt_setBridge {x : Ch} {br : Bridge} (other : x ≠ bridgeChannel br) (s : State) (r : BridgeRecord) :
    AgreesAt x s (s.setBridge br r) :=
  ⟨rfl, fun _ => rfl, fun owner hb => by
    have apart : owner ≠ br := fun same => other (same ▸ bridgeOf_eq_some hb)
    rw [State.bridge_setBridge, if_neg apart], rfl⟩

/-! ### A hand-over that begins no wish -/

theorem wishEnds_false_cases (s : State) (ch : Ch) :
    s.wishEnds false ch = s ∨ s.wishEnds false ch = s.leaveTo ch .off := by
  unfold State.wishEnds
  dsimp only
  split
  · exact .inl rfl
  · exact .inl rfl
  · exact .inl rfl
  · exact .inr rfl

theorem recompute_ending {s : State} {ch : Ch} (still : (s.combined ch).wants = true → (s.chan ch).wish = true) :
    s.recompute false ch = s ∨ s.recompute false ch = s.told ch ∨
      s.recompute false ch = (s.told ch).leaveTo ch .off := by
  cases wants : (s.combined ch).wants with
  | true =>
    have same : (s.combined ch).wants = (s.chan ch).wish := wants.trans (still wants).symm
    by_cases change : (s.combined ch).duty = (s.chan ch).pending ∧
        (s.combined ch).inhibited = (s.chan ch).inhibited ∧ (s.combined ch).wants = (s.chan ch).wish
    · exact .inl (recompute_of_same false change.1 change.2.1 same)
    · exact .inr (.inl (recompute_of_sameWish false change same))
  | false =>
    cases wish : (s.chan ch).wish with
    | true =>
      rw [recompute_ends false wish wants]
      exact .inr (wishEnds_false_cases (s.told ch) ch)
    | false =>
      by_cases change : (s.combined ch).duty = (s.chan ch).pending ∧
          (s.combined ch).inhibited = (s.chan ch).inhibited ∧ (s.combined ch).wants = (s.chan ch).wish
      · exact .inl (recompute_of_same false change.1 change.2.1 change.2.2)
      · exact .inr (.inl (recompute_of_sameWish false change (wants.trans wish.symm)))

theorem agreesAt_recompute {s : State} {ch x : Ch} (other : x ≠ ch)
    (still : (s.combined ch).wants = true → (s.chan ch).wish = true) : AgreesAt x s (s.recompute false ch) := by
  have told : AgreesAt x s (s.told ch) := agreesAt_setChan other s _
  rcases recompute_ending still with e | e | e <;> rw [e]
  · exact .refl x s
  · exact told
  · exact told.trans (agreesAt_leaveTo other _ .off)

/-! ### One suspension -/

theorem agreesAt_dropDrive {s : State} {br : Bridge} {x : Ch} (other : x ≠ bridgeChannel br) (kept : s.BridgeKept br)
    (cause : DriveCause) : AgreesAt x s (s.dropDrive false br cause) := by
  obtain ⟨drives, ⟨_, wish, _⟩, _⟩ := (bridgeKept_iff s br).mp kept
  have offered : s.offerDriveEnd br cause (s.bridge br).neverDriven = s ∨
      ∃ e, s.offerDriveEnd br cause (s.bridge br).neverDriven = s.offerEvent e := by
    unfold State.offerDriveEnd
    dsimp only
    split
    · exact .inl rfl
    · exact .inr ⟨_, rfl⟩
  have legs : ∀ v : State, v.chans = s.chans → v.demand = s.demand → AgreesAt x s v →
      AgreesAt x s ((v.dropLegs br).removeDrive false br) := fun v chans demand agrees => by
    have dropped : AgreesAt x s (v.dropLegs br) := agrees.trans (agreesAt_setBridge other v _)
    unfold State.removeDrive
    dsimp only
    split
    · exact dropped
    next cl _ =>
      refine dropped.trans (((agreesAt_setSlot other _ cl none).trans (agreesAt_setBridge other _ _)).trans
        (agreesAt_recompute other fun wants => ?_))
      /- An entry that still asks for the channel stood before, and the wish with it. -/
      obtain ⟨_, y, stands⟩ := (combined_wants_iff _ _).mp wants
      have before : s.slot (bridgeChannel br) y ≠ none := fun none_ => stands (by
        refine (State.slot_setSlot (v.dropLegs br) _ _ cl y none).trans ?_
        split
        · rfl
        · exact (State.slot_congr (s := s) demand _ y).trans none_)
      have chan : (v.dropLegs br).chan (bridgeChannel br) = s.chan (bridgeChannel br) := by
        change v.chan _ = _
        unfold State.chan
        rw [chans]
      refine Eq.trans (congrArg Channel.wish chan) ?_
      rw [wish, combined_of_drive drives ⟨y, before⟩]
  unfold State.dropDrive
  rcases offered with e | ⟨e, h⟩
  · rw [e]; exact legs s rfl rfl (.refl x s)
  · rw [h]; exact legs _ rfl rfl (agreesAt_offerEvent x s e)

theorem suspend_bridge (s : State) (br : Bridge) : s.suspend (bridgeChannel br) = s.dropDrive false br .supply := by
  unfold State.suspend
  rw [bridgeOf_bridgeChannel]

theorem suspend_pwm (s : State) {ch : Ch} (pwm : bridgeOf ch = none) : s.suspend ch = s.leaveTo ch .suspended := by
  unfold State.suspend
  rw [pwm]

theorem agreesAt_suspend {s : State} {ch x : Ch} (other : x ≠ ch)
    (kept : ∀ br, bridgeOf ch = some br → s.BridgeKept br) : AgreesAt x s (s.suspend ch) := by
  cases bridge : bridgeOf ch with
  | none =>
    rw [suspend_pwm s bridge]
    exact agreesAt_leaveTo other s .suspended
  | some br =>
    obtain rfl := bridgeOf_eq_some bridge
    rw [suspend_bridge]
    exact agreesAt_dropDrive other (kept br bridge) .supply

theorem chan_leaveTo_same (s : State) (ch : Ch) (dest : ChState) : (s.leaveTo ch dest).chan ch =
    if (s.chan ch).admitted = true then (s.chan ch).leaveAdmitted dest else { s.chan ch with st := dest } := by
  unfold State.leaveTo Channel.admitted
  dsimp only
  cases (s.chan ch).st <;> exact State.chan_setChan_same _ _ _

theorem slot_leaveTo (s : State) (ch : Ch) (dest : ChState) (x : Ch) (y : Client) :
    (s.leaveTo ch dest).slot x y = s.slot x y := State.slot_congr (only_leaveTo s ch dest).demand x y

/-- A bridge that wishes to run by its owner's DRIVE entry alone (R117). -/
def State.DrivenAlone (s : State) (br : Bridge) : Prop := (s.chan (bridgeChannel br)).wish = true ∧
  ∃ cl, (s.bridge br).owner = some cl ∧ ((s.slot (bridgeChannel br) cl).map Entry.isDrive) = some true ∧
    ∀ y, y ≠ cl → s.slot (bridgeChannel br) y = none

/-- A bridge off and idle, without owner and entries (R123, R124). -/
def State.DriveEnded (s : State) (br : Bridge) : Prop := (s.chan (bridgeChannel br)).st = .off ∧
  (s.bridge br).st = .idle ∧ (s.bridge br).owner = none ∧ ∀ cl, s.slot (bridgeChannel br) cl = none

theorem driveEnded_dropDrive {s : State} {br : Bridge} (driven : s.DrivenAlone br)
    (leaves : (s.chan (bridgeChannel br)).st ≠ .tripped ∧ (s.chan (bridgeChannel br)).st ≠ .locked) (cause : DriveCause) :
    (s.dropDrive false br cause).DriveEnded br := by
  obtain ⟨wish, cl, owner, isDrive, alone⟩ := driven
  obtain ⟨e, slot, drive⟩ := Option.map_eq_some_iff.mp isDrive
  obtain ⟨dir, n, m, rfl⟩ := (Entry.isDrive_iff e).mp drive
  set v := (s.offerDriveEnd br cause (s.bridge br).neverDriven).dropLegs br with hv
  have told := offerDriveEnd_eq owner slot cause (s.bridge br).neverDriven
  have chan : v.chan (bridgeChannel br) = s.chan (bridgeChannel br) := by rw [hv, told]; rfl
  have bridge : (v.bridge br).st = .idle := by
    rw [hv]
    unfold State.dropLegs
    rw [State.bridge_setBridge_same]
  set d := v.disown br cl with hd
  have empty : ∀ y, d.slot (bridgeChannel br) y = none := fun y => by
    rw [hd, slot_disown]
    split
    · rfl
    next other =>
      rw [hv, told]
      exact alone y fun same => other ⟨rfl, same⟩
  have unwanted : d.combined (bridgeChannel br) = ⟨false, false, 0⟩ := combined_of_empty empty
  have chan' : d.chan (bridgeChannel br) = s.chan (bridgeChannel br) := chan
  have drop : s.dropDrive false br cause = (d.told (bridgeChannel br)).wishEnds false (bridgeChannel br) :=
    (dropDrive_eq owner slot false cause).trans
      (recompute_ends false (by rw [chan', wish]) (by rw [unwanted]))
  have idle : ((d.told (bridgeChannel br)).bridge br).st = .idle ∧
      ((d.told (bridgeChannel br)).bridge br).owner = none := by
    have told_bridge : (d.told (bridgeChannel br)).bridge br = { v.bridge br with owner := none } :=
      bridge_disown v br cl
    rw [told_bridge]
    exact ⟨bridge, rfl⟩
  have st : ((d.told (bridgeChannel br)).chan (bridgeChannel br)).st = (s.chan (bridgeChannel br)).st := by
    rw [chan_told, Channel.record_st, chan']
  have slots : ∀ y, (s.dropDrive false br cause).slot (bridgeChannel br) y = none := fun y => by
    rw [dropDrive_eq owner slot false cause, slot_recompute]
    exact empty y
  refine ⟨?_, ?_, ?_, slots⟩
  all_goals rw [drop]
  · unfold State.wishEnds
    dsimp only
    split
    next off => exact off
    next tripped => exact absurd (st.symm.trans tripped) leaves.1
    next locked => exact absurd (st.symm.trans locked) leaves.2
    next => rw [Bool.false_and]; exact leaveTo_st _ _ _
  all_goals
    rcases wishEnds_false_cases (d.told (bridgeChannel br)) (bridgeChannel br) with e | e <;> rw [e]
  · exact idle.1
  · rw [bridge_leaveTo]; exact idle.1
  · exact idle.2
  · rw [bridge_leaveTo]; exact idle.2

end Sys2Proof.Machine
end

section
/-!
PROOF. What the changes of a feed's state do to its channels (R124, R132, R133, R135, R55).
-/
namespace Sys2Proof.Machine

variable {i : Instr}

/-! ### Suspensions in turn -/

/-- Each suspended channel finds itself as it was before the first, and nothing touches it behind its own
suspension; the channels that are not suspended stay as they were. -/
theorem suspendAll_agrees {l : List Ch} (nodup : l.Nodup) {s : State}
    (kept : ∀ x ∈ l, ∀ br, bridgeOf x = some br → s.BridgeKept br) :
    (∀ x, x ∉ l → AgreesAt x s (s.overChannels (fun ch t => t.suspend ch) l)) ∧
      ∀ x ∈ l, ∃ t, AgreesAt x s t ∧ AgreesAt x (t.suspend x) (s.overChannels (fun ch t => t.suspend ch) l) := by
  induction l generalizing s with
  | nil => exact ⟨fun x _ => .refl x s, fun _ h => (List.not_mem_nil h).elim⟩
  | cons ch l ih =>
    obtain ⟨fresh, rest⟩ := List.nodup_cons.mp nodup
    have step : ∀ x, x ≠ ch → AgreesAt x s (s.suspend ch) := fun x other =>
      agreesAt_suspend other (kept ch List.mem_cons_self)
    have kept' : ∀ x ∈ l, ∀ br, bridgeOf x = some br → (s.suspend ch).BridgeKept br := fun x mem br hb => by
      have agrees := step x fun same => fresh (same ▸ mem)
      obtain rfl := bridgeOf_eq_some hb
      exact agrees.bridgeKept (kept _ (List.mem_cons_of_mem _ mem) br hb)
    obtain ⟨outside, inside⟩ := ih rest kept'
    refine ⟨fun x hx => ?_, fun x hx => ?_⟩
    · obtain ⟨other, later⟩ := not_or.mp (List.mem_cons.not.mp hx)
      exact (step x other).trans (outside x later)
    · by_cases here : x = ch
      · subst here
        exact ⟨s, .refl x s, outside x fresh⟩
      · have mem := (List.mem_cons.mp hx).resolve_left here
        obtain ⟨t, before, after⟩ := inside x mem
        exact ⟨t, (step x here).trans before, after⟩

section
variable {l : List Ch} (nodup : l.Nodup) {s : State} (kept : s.BridgesKept)
include nodup kept

theorem suspendAll_untouched {x : Ch} (h : x ∉ l) : AgreesAt x s (s.overChannels (fun ch t => t.suspend ch) l) :=
  (suspendAll_agrees nodup fun _ _ br _ => kept br).1 x h

theorem suspendAll_pwm {x : Ch} (mem : x ∈ l) (pwm : bridgeOf x = none) :
    (s.overChannels (fun ch t => t.suspend ch) l).chan x = (if (s.chan x).admitted = true then
      (s.chan x).leaveAdmitted .suspended else { s.chan x with st := .suspended }) ∧
    ∀ y, (s.overChannels (fun ch t => t.suspend ch) l).slot x y = s.slot x y := by
  obtain ⟨t, ⟨chan, slots, _⟩, ⟨chan', slots', _⟩⟩ := (suspendAll_agrees nodup fun _ _ br _ => kept br).2 x mem
  rw [suspend_pwm t pwm] at chan' slots'
  refine ⟨?_, fun y => ?_⟩
  · rw [chan', chan_leaveTo_same, chan]
  · rw [slots' y, slot_leaveTo, slots y]

theorem suspendAll_bridge {br : Bridge} (mem : bridgeChannel br ∈ l) (driven : s.DrivenAlone br)
    (leaves : (s.chan (bridgeChannel br)).st ≠ .tripped ∧ (s.chan (bridgeChannel br)).st ≠ .locked) :
    (s.overChannels (fun ch t => t.suspend ch) l).DriveEnded br := by
  obtain ⟨t, ⟨chan, slots, bridge, _⟩, ⟨chan', slots', bridge', _⟩⟩ :=
    (suspendAll_agrees nodup fun _ _ br _ => kept br).2 _ mem
  have here := bridgeOf_bridgeChannel br
  rw [suspend_bridge] at chan' slots' bridge'
  have driven' : t.DrivenAlone br := by
    obtain ⟨wish, cl, owner, drive, alone⟩ := driven
    exact ⟨by rw [chan, wish], cl, by rw [bridge br here, owner], by rw [slots, drive], fun y hy => by rw [slots, alone y hy]⟩
  obtain ⟨off, idle, unowned, empty⟩ := driveEnded_dropDrive driven' (by rw [chan]; exact leaves) .supply
  exact ⟨by rw [chan', off], by rw [bridge' br here, idle], by rw [bridge' br here, unowned],
    fun cl => by rw [slots', empty]⟩

end

theorem admissionKept_suspendAll {l : List Ch} (nodup : l.Nodup) {s : State} (h : ∀ ch ∈ l, Suspendable ch s)
    (kept : s.AdmissionKept) : (s.overChannels (fun ch t => t.suspend ch) l).AdmissionKept :=
  Moves.keeps (admissionKept_kept.fine (.shedStep .a)) (moves_suspendAll nodup h) kept

/-- Without a WAITING, RAMPING or ON channel a feed's queue and sums are empty (R53, R54). -/
theorem unit_of_resting {s : State} {f : Feed} (kept : s.AdmissionKept)
    (rests : ∀ ch, feedOf ch = f → (s.chan ch).st ≠ .waiting ∧ (s.chan ch).admitted = false) :
    (s.unit f).queue = [] ∧ (s.unit f).sumS = 0 ∧ (s.unit f).sumR = 0 := by
  obtain ⟨⟨entries, _⟩, sumS, sumR⟩ := kept.1 f
  refine ⟨List.eq_nil_iff_forall_not_mem.mpr fun e he => ?_, ?_, ?_⟩
  · obtain ⟨feed, waiting, _⟩ := entries e he
    exact (rests e.ch feed).1 waiting
  · rw [sumS]
    exact feedSum_zero fun ch feed => Channel.presentClaim_of_resting (rests ch feed).2
  · rw [sumR]
    exact feedSum_zero fun ch feed => Channel.runClaim_of_resting (rests ch feed).2

/-! ### Which channels a change acts on (R132, R133) -/

/-- WAITING, RAMPING or ON. -/
def Channel.Runs (c : Channel) : Prop := c.st = .waiting ∨ c.st = .ramping ∨ c.st = .on

theorem mem_cutChannels {s : State} {f : Feed} {ch : Ch} : ch ∈ s.cutChannels f ↔ feedOf ch = f ∧
    ((s.chan ch).Runs ∨ (bridgeOf ch = none ∧ (s.chan ch).st = .shed) ∨
      (bridgeOf ch ≠ none ∧ (s.chan ch).st = .suspended)) := by
  have type : bridgeOf ch = none ↔ ¬ typeOf ch = .bridge := (typeOf_bridge_iff ch).symm
  unfold State.cutChannels Channel.Runs
  rw [List.mem_filter, mem_channelsOf, ne_eq, type, not_not]
  cases (s.chan ch).st <;> simp [cutActs]

theorem mem_surgeChannels {s : State} {f : Feed} {ch : Ch} : ch ∈ s.surgeChannels f ↔ feedOf ch = f ∧
    (s.chan ch).Runs ∧ 2 ≤ (s.chan ch).profile.cls := by
  unfold State.surgeChannels Channel.Runs
  rw [List.mem_filter, mem_channelsOf]
  cases (s.chan ch).st <;> simp [surgeActs]

theorem suspendable_cut {s : State} {f : Feed} {ch : Ch} (mem : ch ∈ s.cutChannels f) : Suspendable ch s := fun pwm => by
  rcases (mem_cutChannels.mp mem).2 with (h | h | h) | ⟨_, h⟩ | ⟨bridge, _⟩
  · exact .inl h
  · exact .inr (.inl h)
  · exact .inr (.inr (.inl h))
  · exact .inr (.inr (.inr h))
  · exact absurd pwm bridge

/-! ### Resume (R135) -/

theorem st_admitChannels (l : List Ch) (s : State) (x : Ch) :
    ((l.foldl State.admitChannel s).chan x).st = if x ∈ l then .ramping else (s.chan x).st := by
  induction l generalizing s with
  | nil => rfl
  | cons ch l ih =>
    rw [List.foldl_cons, ih, st_admitChannel]
    by_cases later : x ∈ l
    · rw [if_pos later, if_pos (List.mem_cons_of_mem _ later)]
    · rw [if_neg later]
      exact if_congr (by simp [later]) rfl rfl

theorem cls_admitChannels (l : List Ch) (s : State) (x : Ch) :
    ((l.foldl State.admitChannel s).chan x).profile = (s.chan x).profile := by
  induction l generalizing s with
  | nil => rfl
  | cons ch l ih =>
    rw [List.foldl_cons, ih]
    by_cases here : x = ch
    · rw [here, profile_admitChannel]
    · rw [othersKept_admitChannel s ch x here]

theorem st_placeAll (l : List Ch) (s : State) (x : Ch) :
    ((s.overChannels (fun ch t => t.place ch) l).chan x).st = if x ∈ l then .waiting else (s.chan x).st := by
  unfold State.overChannels
  induction l generalizing s with
  | nil => rfl
  | cons ch l ih =>
    rw [List.foldl_cons, ih, State.chan_place]
    by_cases later : x ∈ l
    · rw [if_pos later, if_pos (List.mem_cons_of_mem _ later)]
    · rw [if_neg later]
      by_cases here : x = ch
      · rw [if_pos here, if_pos (by simp [here])]
      · rw [if_neg here, if_neg (by simp [here, later])]

/-- A batch leaves a channel WAITING or RAMPING, the channels outside it as they were or admitted (R55). -/
theorem st_placeBatch (s : State) (f : Feed) (batch : List Ch) (x : Ch) :
    ((s.placeBatch f batch).chan x).st = (if x ∈ batchOrder s batch then .waiting else (s.chan x).st) ∨
      ((s.placeBatch f batch).chan x).st = .ramping := by
  rw [← st_placeAll]
  exact st_examine _ f x

/-- Settles O44. -/
theorem feedsSuspendAndResume : Obligations.FeedsSuspendAndResume := by
  unfold Obligations.FeedsSuspendAndResume
  refine ⟨fun f s kept bridges => ?_, fun f s => ?_⟩
  · intro cut surge runs cutActs surgeActs suspended untouched owned ended
    have cutNodup : (s.cutChannels f).Nodup := (channelsOf_nodup f).filter _
    have surgeNodup : (s.surgeChannels f).Nodup := (channelsOf_nodup f).filter _
    have inCut : ∀ ch, ch ∈ s.cutChannels f ↔ cutActs ch := fun ch => mem_cutChannels
    have inSurge : ∀ ch, ch ∈ s.surgeChannels f ↔ surgeActs ch := fun ch => mem_surgeChannels
    have stays : ∀ {t ch}, AgreesAt ch s t → untouched t ch := fun h => ⟨h.1, h.2.1, h.2.2.1⟩
    have leaves : ∀ c : Channel, (if c.admitted = true then c.leaveAdmitted .suspended else { c with st := .suspended }) =
        suspended c := fun c => by
      dsimp only [suspended]
      unfold Channel.admitted
      cases c.st <;> rfl
    have notLocked : ∀ ch, cutActs ch ∨ surgeActs ch → (s.chan ch).st ≠ .tripped ∧ (s.chan ch).st ≠ .locked := by
      rintro ch (⟨_, (h | h | h) | ⟨_, h⟩ | ⟨_, h⟩⟩ | ⟨_, h | h | h, _⟩) <;> rw [h] <;> decide
    have untouchedCut : ∀ ch, ¬ cutActs ch → untouched cut ch := fun ch h =>
      stays (suspendAll_untouched cutNodup bridges ((inCut ch).not.mpr h))
    have pwmCut : ∀ ch, bridgeOf ch = none → cutActs ch →
        cut.chan ch = suspended (s.chan ch) ∧ ∀ cl, cut.slot ch cl = s.slot ch cl := fun ch pwm h => by
      rw [← leaves]
      exact suspendAll_pwm cutNodup bridges ((inCut ch).mpr h) pwm
    have endedCut : ∀ br, owned br → cutActs (bridgeChannel br) → ended cut br := fun br own h =>
      suspendAll_bridge cutNodup bridges ((inCut _).mpr h) own (notLocked _ (.inl h))
    refine ⟨fun ch => ⟨untouchedCut ch, fun h =>
        stays (suspendAll_untouched surgeNodup bridges ((inSurge ch).not.mpr h))⟩,
      fun ch pwm => ⟨pwmCut ch pwm, fun h => ?_⟩, fun br own => ⟨endedCut br own, fun h =>
        suspendAll_bridge surgeNodup bridges ((inSurge _).mpr h) own (notLocked _ (.inr h))⟩, fun all => ?_⟩
    · rw [← leaves]
      exact suspendAll_pwm surgeNodup bridges ((inSurge ch).mpr h) pwm
    · refine unit_of_resting (admissionKept_suspendAll cutNodup (fun ch => suspendable_cut) kept) fun ch feed => ?_
      have rests : ∀ st : ChState, (cut.chan ch).st = st → st ≠ .waiting → st ≠ .ramping → st ≠ .on →
          (cut.chan ch).st ≠ .waiting ∧ (cut.chan ch).admitted = false := by
        rintro st rfl waiting ramping on
        exact ⟨waiting, (Channel.not_admitted_iff _).mpr ⟨ramping, on⟩⟩
      by_cases acts : cutActs ch
      · cases bridge : bridgeOf ch with
        | none =>
          refine rests .suspended ?_ (by decide) (by decide) (by decide)
          rw [(pwmCut ch bridge acts).1, ← leaves]
          split <;> rfl
        | some br =>
          obtain rfl := bridgeOf_eq_some bridge
          rcases all br feed with own | off | tripped | locked
          · exact rests .off (endedCut br own acts).1 (by decide) (by decide) (by decide)
          · exfalso
            rcases acts with ⟨_, (h | h | h) | ⟨_, h⟩ | ⟨_, h⟩⟩ <;> cases off.symm.trans h
          · exact absurd tripped (notLocked _ (.inl acts)).1
          · exact absurd locked (notLocked _ (.inl acts)).2
      · have still : (cut.chan ch).st = (s.chan ch).st := congrArg Channel.st (untouchedCut ch acts).1
        have idle : ¬ runs ch := fun h => acts ⟨feed, .inl h⟩
        exact rests _ still (fun h => idle (.inl h)) (fun h => idle (.inr (.inl h))) fun h => idle (.inr (.inr h))
  · intro chs zero others u
    refine ⟨rfl, fun kept ch mem => ?_⟩
    set t := zero.foldl State.admitChannel s with ht
    have st : ∀ x, (t.chan x).st = if x ∈ zero then .ramping else (s.chan x).st := st_admitChannels zero s
    have cls : ∀ x, (t.chan x).profile = (s.chan x).profile := cls_admitChannels zero s
    have placed : (u.chan ch).st = (if ch ∈ batchOrder t others then .waiting else (t.chan ch).st) ∨
        (u.chan ch).st = .ramping := st_placeBatch t f others ch
    refine ⟨fun bypass => ?_, fun ranked => ?_⟩
    · have inZero : ch ∈ zero := List.mem_filter.mpr ⟨mem, decide_eq_true bypass⟩
      have notBatch : ch ∉ batchOrder t others := fun h => by
        have ranked := (List.mem_filter.mp (mem_batchOrder.mp h).1).2
        rw [decide_eq_true_eq] at ranked
        exact ranked bypass
      rw [if_neg notBatch, st, if_pos inZero] at placed
      exact placed.elim id id
    · have inBatch : ch ∈ batchOrder t others := by
        refine mem_batchOrder.mpr ⟨List.mem_filter.mpr ⟨mem, decide_eq_true ranked⟩, ?_⟩
        rw [cls]
        exact ⟨Nat.one_le_iff_ne_zero.mpr ranked, (kept.2 ch).2⟩
      rw [if_pos inBatch] at placed
      exact placed

end Sys2Proof.Machine
end
